-- ==== Sys2Proof/Word.lean ====
section
/-! DEFINITION. The word type of the block and the byte it is stored in. -/

namespace Sys2Proof

/-- A Word: "a 256-bit unsigned value" (R9, R13). Bit 0 is the least significant bit. -/
abbrev Word := BitVec 256

/-- One byte of code, calldata, memory or return data (R9: memory unit 1 byte). -/
abbrev Byte := BitVec 8

end Sys2Proof
end

