-- ==== Sys2Proof/Config.lean ====
section
/-! DEFINITION. What an implementation fixes: the parameters of R10 that the source leaves open, and the model's one
free value. The parameters are plain data held in `State.params`, so that every statement is about every value of
them; no step changes them (R322: "fixed for the run"). Log entry 1. -/

namespace Sys2Proof

/-- `UNLISTED_CLASS` (R10, R86): the outcome of a class X byte. -/
inductive UnlistedClass where
  /-- The refusal mark is set (the default, R10). -/
  | refused
  /-- The byte acts as an unassigned byte and raises InvalidOpcode. -/
  | invalidOpcode
  deriving DecidableEq, Repr

/-- The parameters of R10. KECCAK256 is not among them: R10 says it must equal Keccak-256, which R260 defines in full
(log entry 9). -/
structure Params where
  /-- `MEM_CEILING`: the safety ceiling on `offset + size` (R54). -/
  memCeiling : Nat
  /-- `ZERO_SIZE_EXPANDS`: whether a zero-size access expands memory (R56). -/
  zeroSizeExpands : Bool
  /-- `UNLISTED_CLASS` (R86). -/
  unlistedClass : UnlistedClass
  /-- `CODE_MAX`: the largest bytecode length (R322). -/
  codeMax : Nat
  /-- `CALLDATA_MAX`: the largest calldata length (R322). -/
  calldataMax : Nat
  deriving DecidableEq, Repr

/-- The constraint R10 sets on `MEM_CEILING`: a multiple of 32 with `1024 <= MEM_CEILING < 2^255`. -/
abbrev Params.valid (p : Params) : Prop :=
  p.memCeiling % 32 = 0 ∧ 1024 ≤ p.memCeiling ∧ p.memCeiling < 2 ^ 255

/-- The parameters of `State.reset`. `zeroSizeExpands` and `unlistedClass` are R10's defaults. DESIGN CHOICE (log
entry 1): the spec leaves the three numbers OPEN (D5, D29); 2^20 is the ceiling of spec/95_test_vectors.md. -/
def Params.default : Params where
  memCeiling := 2 ^ 20
  zeroSizeExpands := true
  unlistedClass := .refused
  codeMax := 2 ^ 32
  calldataMax := 2 ^ 32

/-- Free value: the Word pushed for a natural number of 2^256 or more, which no Word equals (R14's `zext_256` is for a
narrower value). Nothing constrains it. DESIGN CHOICE (log entry 5): the spec states no result there. -/
opaque Config.tooWide : Nat → Word

end Sys2Proof
end

