-- ==== Sys2Proof/Syntax.lean ====
section
/-! DEFINITION. The instruction set: one constructor per row of spec/opcode_table.json, in byte order. -/

namespace Sys2Proof

/-- One instruction (R84, R85, R88 of 30_encoding.md: every byte value is an admitted instruction, a class U byte or a
class X byte). PUSHn carries its immediate as the Word it pushes (R82, R89: `PUSHn v` with `0 <= v < 256^n`); every
other operand comes from the stack (R91). -/
inductive Instr where
  /-- 0x00 STOP (R282). -/
  | stop
  /-- 0x01 ADD (R111). -/
  | add
  /-- 0x02 MUL (R112). -/
  | mul
  /-- 0x03 SUB (R113). -/
  | sub
  /-- 0x04 DIV (R114). -/
  | div
  /-- 0x05 SDIV (R115). -/
  | sdiv
  /-- 0x06 MOD (R116). -/
  | mod
  /-- 0x07 SMOD (R117). -/
  | smod
  /-- 0x08 ADDMOD, class X (R86). -/
  | addmod
  /-- 0x09 MULMOD, class X (R86). -/
  | mulmod
  /-- 0x0A EXP (R118). -/
  | exp
  /-- 0x0B SIGNEXTEND (R119). -/
  | signextend
  /-- 0x0C UNASSIGNED_0C, class U (R87). -/
  | unassigned0C
  /-- 0x0D UNASSIGNED_0D, class U (R87). -/
  | unassigned0D
  /-- 0x0E UNASSIGNED_0E, class U (R87). -/
  | unassigned0E
  /-- 0x0F UNASSIGNED_0F, class U (R87). -/
  | unassigned0F
  /-- 0x10 LT (R141). -/
  | lt
  /-- 0x11 GT (R142). -/
  | gt
  /-- 0x12 SLT (R143). -/
  | slt
  /-- 0x13 SGT (R144). -/
  | sgt
  /-- 0x14 EQ (R145). -/
  | eq
  /-- 0x15 ISZERO (R146). -/
  | iszero
  /-- 0x16 AND (R147). -/
  | and
  /-- 0x17 OR (R148). -/
  | or
  /-- 0x18 XOR (R149). -/
  | xor
  /-- 0x19 NOT (R150). -/
  | not
  /-- 0x1A BYTE, class X (R86). -/
  | byte
  /-- 0x1B SHL (R151). -/
  | shl
  /-- 0x1C SHR (R152). -/
  | shr
  /-- 0x1D SAR (R153). -/
  | sar
  /-- 0x1E UNASSIGNED_1E, class U (R87). -/
  | unassigned1E
  /-- 0x1F UNASSIGNED_1F, class U (R87). -/
  | unassigned1F
  /-- 0x20 SHA3 (R261). -/
  | sha3
  /-- 0x21 UNASSIGNED_21, class U (R87). -/
  | unassigned21
  /-- 0x22 UNASSIGNED_22, class U (R87). -/
  | unassigned22
  /-- 0x23 UNASSIGNED_23, class U (R87). -/
  | unassigned23
  /-- 0x24 UNASSIGNED_24, class U (R87). -/
  | unassigned24
  /-- 0x25 UNASSIGNED_25, class U (R87). -/
  | unassigned25
  /-- 0x26 UNASSIGNED_26, class U (R87). -/
  | unassigned26
  /-- 0x27 UNASSIGNED_27, class U (R87). -/
  | unassigned27
  /-- 0x28 UNASSIGNED_28, class U (R87). -/
  | unassigned28
  /-- 0x29 UNASSIGNED_29, class U (R87). -/
  | unassigned29
  /-- 0x2A UNASSIGNED_2A, class U (R87). -/
  | unassigned2A
  /-- 0x2B UNASSIGNED_2B, class U (R87). -/
  | unassigned2B
  /-- 0x2C UNASSIGNED_2C, class U (R87). -/
  | unassigned2C
  /-- 0x2D UNASSIGNED_2D, class U (R87). -/
  | unassigned2D
  /-- 0x2E UNASSIGNED_2E, class U (R87). -/
  | unassigned2E
  /-- 0x2F UNASSIGNED_2F, class U (R87). -/
  | unassigned2F
  /-- 0x30 ADDRESS (R263). -/
  | address
  /-- 0x31 BALANCE (R275). -/
  | balance
  /-- 0x32 ORIGIN (R265). -/
  | origin
  /-- 0x33 CALLER (R264). -/
  | caller
  /-- 0x34 CALLVALUE (R266). -/
  | callvalue
  /-- 0x35 CALLDATALOAD (R273). -/
  | calldataload
  /-- 0x36 CALLDATASIZE (R272). -/
  | calldatasize
  /-- 0x37 CALLDATACOPY, class X (R86). -/
  | calldatacopy
  /-- 0x38 CODESIZE, class X (R86). -/
  | codesize
  /-- 0x39 CODECOPY, class X (R86). -/
  | codecopy
  /-- 0x3A GASPRICE, class X (R86). -/
  | gasprice
  /-- 0x3B EXTCODESIZE (R276). -/
  | extcodesize
  /-- 0x3C EXTCODECOPY, class X (R86). -/
  | extcodecopy
  /-- 0x3D RETURNDATASIZE (R274). -/
  | returndatasize
  /-- 0x3E RETURNDATACOPY, class X (R86). -/
  | returndatacopy
  /-- 0x3F EXTCODEHASH, class X (R86). -/
  | extcodehash
  /-- 0x40 BLOCKHASH, class X (R86). -/
  | blockhash
  /-- 0x41 COINBASE (R268). -/
  | coinbase
  /-- 0x42 TIMESTAMP (R270). -/
  | timestamp
  /-- 0x43 NUMBER (R269). -/
  | number
  /-- 0x44 PREVRANDAO, class X (R86). -/
  | prevrandao
  /-- 0x45 GASLIMIT (R271). -/
  | gaslimit
  /-- 0x46 CHAINID (R267). -/
  | chainid
  /-- 0x47 SELFBALANCE, class X (R86). -/
  | selfbalance
  /-- 0x48 BASEFEE, class X (R86). -/
  | basefee
  /-- 0x49 BLOBHASH, class X (R86). -/
  | blobhash
  /-- 0x4A BLOBBASEFEE, class X (R86). -/
  | blobbasefee
  /-- 0x4B UNASSIGNED_4B, class U (R87). -/
  | unassigned4B
  /-- 0x4C UNASSIGNED_4C, class U (R87). -/
  | unassigned4C
  /-- 0x4D UNASSIGNED_4D, class U (R87). -/
  | unassigned4D
  /-- 0x4E UNASSIGNED_4E, class U (R87). -/
  | unassigned4E
  /-- 0x4F UNASSIGNED_4F, class U (R87). -/
  | unassigned4F
  /-- 0x50 POP (R171). -/
  | pop
  /-- 0x51 MLOAD (R241). -/
  | mload
  /-- 0x52 MSTORE (R242). -/
  | mstore
  /-- 0x53 MSTORE8 (R243). -/
  | mstore8
  /-- 0x54 SLOAD, class X (R86). -/
  | sload
  /-- 0x55 SSTORE, class X (R86). -/
  | sstore
  /-- 0x56 JUMP (R253). -/
  | jump
  /-- 0x57 JUMPI (R254). -/
  | jumpi
  /-- 0x58 PC (R255). -/
  | pc
  /-- 0x59 MSIZE (R244). -/
  | msize
  /-- 0x5A GAS, class X (R86). -/
  | gas
  /-- 0x5B JUMPDEST (R252). -/
  | jumpdest
  /-- 0x5C TLOAD, class X (R86). -/
  | tload
  /-- 0x5D TSTORE, class X (R86). -/
  | tstore
  /-- 0x5E MCOPY, class X (R86). -/
  | mcopy
  /-- 0x5F PUSH0, class X (R86). -/
  | push0
  /-- 0x60 PUSH1 (R173). -/
  | push1 (v : Word)
  /-- 0x61 PUSH2 (R174). -/
  | push2 (v : Word)
  /-- 0x62 PUSH3 (R175). -/
  | push3 (v : Word)
  /-- 0x63 PUSH4 (R176). -/
  | push4 (v : Word)
  /-- 0x64 PUSH5 (R177). -/
  | push5 (v : Word)
  /-- 0x65 PUSH6 (R178). -/
  | push6 (v : Word)
  /-- 0x66 PUSH7 (R179). -/
  | push7 (v : Word)
  /-- 0x67 PUSH8 (R180). -/
  | push8 (v : Word)
  /-- 0x68 PUSH9 (R181). -/
  | push9 (v : Word)
  /-- 0x69 PUSH10 (R182). -/
  | push10 (v : Word)
  /-- 0x6A PUSH11 (R183). -/
  | push11 (v : Word)
  /-- 0x6B PUSH12 (R184). -/
  | push12 (v : Word)
  /-- 0x6C PUSH13 (R185). -/
  | push13 (v : Word)
  /-- 0x6D PUSH14 (R186). -/
  | push14 (v : Word)
  /-- 0x6E PUSH15 (R187). -/
  | push15 (v : Word)
  /-- 0x6F PUSH16 (R188). -/
  | push16 (v : Word)
  /-- 0x70 PUSH17 (R189). -/
  | push17 (v : Word)
  /-- 0x71 PUSH18 (R190). -/
  | push18 (v : Word)
  /-- 0x72 PUSH19 (R191). -/
  | push19 (v : Word)
  /-- 0x73 PUSH20 (R192). -/
  | push20 (v : Word)
  /-- 0x74 PUSH21 (R193). -/
  | push21 (v : Word)
  /-- 0x75 PUSH22 (R194). -/
  | push22 (v : Word)
  /-- 0x76 PUSH23 (R195). -/
  | push23 (v : Word)
  /-- 0x77 PUSH24 (R196). -/
  | push24 (v : Word)
  /-- 0x78 PUSH25 (R197). -/
  | push25 (v : Word)
  /-- 0x79 PUSH26 (R198). -/
  | push26 (v : Word)
  /-- 0x7A PUSH27 (R199). -/
  | push27 (v : Word)
  /-- 0x7B PUSH28 (R200). -/
  | push28 (v : Word)
  /-- 0x7C PUSH29 (R201). -/
  | push29 (v : Word)
  /-- 0x7D PUSH30 (R202). -/
  | push30 (v : Word)
  /-- 0x7E PUSH31 (R203). -/
  | push31 (v : Word)
  /-- 0x7F PUSH32 (R204). -/
  | push32 (v : Word)
  /-- 0x80 DUP1 (R206). -/
  | dup1
  /-- 0x81 DUP2 (R207). -/
  | dup2
  /-- 0x82 DUP3 (R208). -/
  | dup3
  /-- 0x83 DUP4 (R209). -/
  | dup4
  /-- 0x84 DUP5 (R210). -/
  | dup5
  /-- 0x85 DUP6 (R211). -/
  | dup6
  /-- 0x86 DUP7 (R212). -/
  | dup7
  /-- 0x87 DUP8 (R213). -/
  | dup8
  /-- 0x88 DUP9 (R214). -/
  | dup9
  /-- 0x89 DUP10 (R215). -/
  | dup10
  /-- 0x8A DUP11 (R216). -/
  | dup11
  /-- 0x8B DUP12 (R217). -/
  | dup12
  /-- 0x8C DUP13 (R218). -/
  | dup13
  /-- 0x8D DUP14 (R219). -/
  | dup14
  /-- 0x8E DUP15 (R220). -/
  | dup15
  /-- 0x8F DUP16 (R221). -/
  | dup16
  /-- 0x90 SWAP1 (R223). -/
  | swap1
  /-- 0x91 SWAP2 (R224). -/
  | swap2
  /-- 0x92 SWAP3 (R225). -/
  | swap3
  /-- 0x93 SWAP4 (R226). -/
  | swap4
  /-- 0x94 SWAP5 (R227). -/
  | swap5
  /-- 0x95 SWAP6 (R228). -/
  | swap6
  /-- 0x96 SWAP7 (R229). -/
  | swap7
  /-- 0x97 SWAP8 (R230). -/
  | swap8
  /-- 0x98 SWAP9 (R231). -/
  | swap9
  /-- 0x99 SWAP10 (R232). -/
  | swap10
  /-- 0x9A SWAP11 (R233). -/
  | swap11
  /-- 0x9B SWAP12 (R234). -/
  | swap12
  /-- 0x9C SWAP13 (R235). -/
  | swap13
  /-- 0x9D SWAP14 (R236). -/
  | swap14
  /-- 0x9E SWAP15 (R237). -/
  | swap15
  /-- 0x9F SWAP16 (R238). -/
  | swap16
  /-- 0xA0 LOG0, class X (R86). -/
  | log0
  /-- 0xA1 LOG1, class X (R86). -/
  | log1
  /-- 0xA2 LOG2, class X (R86). -/
  | log2
  /-- 0xA3 LOG3, class X (R86). -/
  | log3
  /-- 0xA4 LOG4, class X (R86). -/
  | log4
  /-- 0xA5 UNASSIGNED_A5, class U (R87). -/
  | unassignedA5
  /-- 0xA6 UNASSIGNED_A6, class U (R87). -/
  | unassignedA6
  /-- 0xA7 UNASSIGNED_A7, class U (R87). -/
  | unassignedA7
  /-- 0xA8 UNASSIGNED_A8, class U (R87). -/
  | unassignedA8
  /-- 0xA9 UNASSIGNED_A9, class U (R87). -/
  | unassignedA9
  /-- 0xAA UNASSIGNED_AA, class U (R87). -/
  | unassignedAA
  /-- 0xAB UNASSIGNED_AB, class U (R87). -/
  | unassignedAB
  /-- 0xAC UNASSIGNED_AC, class U (R87). -/
  | unassignedAC
  /-- 0xAD UNASSIGNED_AD, class U (R87). -/
  | unassignedAD
  /-- 0xAE UNASSIGNED_AE, class U (R87). -/
  | unassignedAE
  /-- 0xAF UNASSIGNED_AF, class U (R87). -/
  | unassignedAF
  /-- 0xB0 UNASSIGNED_B0, class U (R87). -/
  | unassignedB0
  /-- 0xB1 UNASSIGNED_B1, class U (R87). -/
  | unassignedB1
  /-- 0xB2 UNASSIGNED_B2, class U (R87). -/
  | unassignedB2
  /-- 0xB3 UNASSIGNED_B3, class U (R87). -/
  | unassignedB3
  /-- 0xB4 UNASSIGNED_B4, class U (R87). -/
  | unassignedB4
  /-- 0xB5 UNASSIGNED_B5, class U (R87). -/
  | unassignedB5
  /-- 0xB6 UNASSIGNED_B6, class U (R87). -/
  | unassignedB6
  /-- 0xB7 UNASSIGNED_B7, class U (R87). -/
  | unassignedB7
  /-- 0xB8 UNASSIGNED_B8, class U (R87). -/
  | unassignedB8
  /-- 0xB9 UNASSIGNED_B9, class U (R87). -/
  | unassignedB9
  /-- 0xBA UNASSIGNED_BA, class U (R87). -/
  | unassignedBA
  /-- 0xBB UNASSIGNED_BB, class U (R87). -/
  | unassignedBB
  /-- 0xBC UNASSIGNED_BC, class U (R87). -/
  | unassignedBC
  /-- 0xBD UNASSIGNED_BD, class U (R87). -/
  | unassignedBD
  /-- 0xBE UNASSIGNED_BE, class U (R87). -/
  | unassignedBE
  /-- 0xBF UNASSIGNED_BF, class U (R87). -/
  | unassignedBF
  /-- 0xC0 UNASSIGNED_C0, class U (R87). -/
  | unassignedC0
  /-- 0xC1 UNASSIGNED_C1, class U (R87). -/
  | unassignedC1
  /-- 0xC2 UNASSIGNED_C2, class U (R87). -/
  | unassignedC2
  /-- 0xC3 UNASSIGNED_C3, class U (R87). -/
  | unassignedC3
  /-- 0xC4 UNASSIGNED_C4, class U (R87). -/
  | unassignedC4
  /-- 0xC5 UNASSIGNED_C5, class U (R87). -/
  | unassignedC5
  /-- 0xC6 UNASSIGNED_C6, class U (R87). -/
  | unassignedC6
  /-- 0xC7 UNASSIGNED_C7, class U (R87). -/
  | unassignedC7
  /-- 0xC8 UNASSIGNED_C8, class U (R87). -/
  | unassignedC8
  /-- 0xC9 UNASSIGNED_C9, class U (R87). -/
  | unassignedC9
  /-- 0xCA UNASSIGNED_CA, class U (R87). -/
  | unassignedCA
  /-- 0xCB UNASSIGNED_CB, class U (R87). -/
  | unassignedCB
  /-- 0xCC UNASSIGNED_CC, class U (R87). -/
  | unassignedCC
  /-- 0xCD UNASSIGNED_CD, class U (R87). -/
  | unassignedCD
  /-- 0xCE UNASSIGNED_CE, class U (R87). -/
  | unassignedCE
  /-- 0xCF UNASSIGNED_CF, class U (R87). -/
  | unassignedCF
  /-- 0xD0 UNASSIGNED_D0, class U (R87). -/
  | unassignedD0
  /-- 0xD1 UNASSIGNED_D1, class U (R87). -/
  | unassignedD1
  /-- 0xD2 UNASSIGNED_D2, class U (R87). -/
  | unassignedD2
  /-- 0xD3 UNASSIGNED_D3, class U (R87). -/
  | unassignedD3
  /-- 0xD4 UNASSIGNED_D4, class U (R87). -/
  | unassignedD4
  /-- 0xD5 UNASSIGNED_D5, class U (R87). -/
  | unassignedD5
  /-- 0xD6 UNASSIGNED_D6, class U (R87). -/
  | unassignedD6
  /-- 0xD7 UNASSIGNED_D7, class U (R87). -/
  | unassignedD7
  /-- 0xD8 UNASSIGNED_D8, class U (R87). -/
  | unassignedD8
  /-- 0xD9 UNASSIGNED_D9, class U (R87). -/
  | unassignedD9
  /-- 0xDA UNASSIGNED_DA, class U (R87). -/
  | unassignedDA
  /-- 0xDB UNASSIGNED_DB, class U (R87). -/
  | unassignedDB
  /-- 0xDC UNASSIGNED_DC, class U (R87). -/
  | unassignedDC
  /-- 0xDD UNASSIGNED_DD, class U (R87). -/
  | unassignedDD
  /-- 0xDE UNASSIGNED_DE, class U (R87). -/
  | unassignedDE
  /-- 0xDF UNASSIGNED_DF, class U (R87). -/
  | unassignedDF
  /-- 0xE0 UNASSIGNED_E0, class U (R87). -/
  | unassignedE0
  /-- 0xE1 UNASSIGNED_E1, class U (R87). -/
  | unassignedE1
  /-- 0xE2 UNASSIGNED_E2, class U (R87). -/
  | unassignedE2
  /-- 0xE3 UNASSIGNED_E3, class U (R87). -/
  | unassignedE3
  /-- 0xE4 UNASSIGNED_E4, class U (R87). -/
  | unassignedE4
  /-- 0xE5 UNASSIGNED_E5, class U (R87). -/
  | unassignedE5
  /-- 0xE6 UNASSIGNED_E6, class U (R87). -/
  | unassignedE6
  /-- 0xE7 UNASSIGNED_E7, class U (R87). -/
  | unassignedE7
  /-- 0xE8 UNASSIGNED_E8, class U (R87). -/
  | unassignedE8
  /-- 0xE9 UNASSIGNED_E9, class U (R87). -/
  | unassignedE9
  /-- 0xEA UNASSIGNED_EA, class U (R87). -/
  | unassignedEA
  /-- 0xEB UNASSIGNED_EB, class U (R87). -/
  | unassignedEB
  /-- 0xEC UNASSIGNED_EC, class U (R87). -/
  | unassignedEC
  /-- 0xED UNASSIGNED_ED, class U (R87). -/
  | unassignedED
  /-- 0xEE UNASSIGNED_EE, class U (R87). -/
  | unassignedEE
  /-- 0xEF UNASSIGNED_EF, class U (R87). -/
  | unassignedEF
  /-- 0xF0 CREATE, class X (R86). -/
  | create
  /-- 0xF1 CALL, class X (R86). -/
  | call
  /-- 0xF2 CALLCODE, class X (R86). -/
  | callcode
  /-- 0xF3 RETURN (R283). -/
  | ret
  /-- 0xF4 DELEGATECALL, class X (R86). -/
  | delegatecall
  /-- 0xF5 CREATE2, class X (R86). -/
  | create2
  /-- 0xF6 UNASSIGNED_F6, class U (R87). -/
  | unassignedF6
  /-- 0xF7 UNASSIGNED_F7, class U (R87). -/
  | unassignedF7
  /-- 0xF8 UNASSIGNED_F8, class U (R87). -/
  | unassignedF8
  /-- 0xF9 UNASSIGNED_F9, class U (R87). -/
  | unassignedF9
  /-- 0xFA STATICCALL, class X (R86). -/
  | staticcall
  /-- 0xFB UNASSIGNED_FB, class U (R87). -/
  | unassignedFB
  /-- 0xFC UNASSIGNED_FC, class U (R87). -/
  | unassignedFC
  /-- 0xFD REVERT (R284). -/
  | revert
  /-- 0xFE INVALID (R285). -/
  | invalid
  /-- 0xFF SELFDESTRUCT, class X (R86). -/
  | selfdestruct
  deriving DecidableEq, Repr

/-- The PUSH immediate of an instruction: how many bytes it has and its value (R80, R82); `none` for format `O`. -/
def Instr.immediate : Instr → Option (Nat × Word)
  | .push1 v => some (1, v)
  | .push2 v => some (2, v)
  | .push3 v => some (3, v)
  | .push4 v => some (4, v)
  | .push5 v => some (5, v)
  | .push6 v => some (6, v)
  | .push7 v => some (7, v)
  | .push8 v => some (8, v)
  | .push9 v => some (9, v)
  | .push10 v => some (10, v)
  | .push11 v => some (11, v)
  | .push12 v => some (12, v)
  | .push13 v => some (13, v)
  | .push14 v => some (14, v)
  | .push15 v => some (15, v)
  | .push16 v => some (16, v)
  | .push17 v => some (17, v)
  | .push18 v => some (18, v)
  | .push19 v => some (19, v)
  | .push20 v => some (20, v)
  | .push21 v => some (21, v)
  | .push22 v => some (22, v)
  | .push23 v => some (23, v)
  | .push24 v => some (24, v)
  | .push25 v => some (25, v)
  | .push26 v => some (26, v)
  | .push27 v => some (27, v)
  | .push28 v => some (28, v)
  | .push29 v => some (29, v)
  | .push30 v => some (30, v)
  | .push31 v => some (31, v)
  | .push32 v => some (32, v)
  | .stop | .add | .mul | .sub | .div | .sdiv | .mod | .smod | .addmod | .mulmod | .exp | .signextend
  | .unassigned0C | .unassigned0D | .unassigned0E | .unassigned0F | .lt | .gt | .slt | .sgt | .eq | .iszero
  | .and | .or | .xor | .not | .byte | .shl | .shr | .sar | .unassigned1E | .unassigned1F | .sha3
  | .unassigned21 | .unassigned22 | .unassigned23 | .unassigned24 | .unassigned25 | .unassigned26
  | .unassigned27 | .unassigned28 | .unassigned29 | .unassigned2A | .unassigned2B | .unassigned2C
  | .unassigned2D | .unassigned2E | .unassigned2F | .address | .balance | .origin | .caller | .callvalue
  | .calldataload | .calldatasize | .calldatacopy | .codesize | .codecopy | .gasprice | .extcodesize
  | .extcodecopy | .returndatasize | .returndatacopy | .extcodehash | .blockhash | .coinbase | .timestamp
  | .number | .prevrandao | .gaslimit | .chainid | .selfbalance | .basefee | .blobhash | .blobbasefee
  | .unassigned4B | .unassigned4C | .unassigned4D | .unassigned4E | .unassigned4F | .pop | .mload | .mstore
  | .mstore8 | .sload | .sstore | .jump | .jumpi | .pc | .msize | .gas | .jumpdest | .tload | .tstore
  | .mcopy | .push0 | .dup1 | .dup2 | .dup3 | .dup4 | .dup5 | .dup6 | .dup7 | .dup8 | .dup9 | .dup10 | .dup11
  | .dup12 | .dup13 | .dup14 | .dup15 | .dup16 | .swap1 | .swap2 | .swap3 | .swap4 | .swap5 | .swap6 | .swap7
  | .swap8 | .swap9 | .swap10 | .swap11 | .swap12 | .swap13 | .swap14 | .swap15 | .swap16 | .log0 | .log1
  | .log2 | .log3 | .log4 | .unassignedA5 | .unassignedA6 | .unassignedA7 | .unassignedA8 | .unassignedA9
  | .unassignedAA | .unassignedAB | .unassignedAC | .unassignedAD | .unassignedAE | .unassignedAF
  | .unassignedB0 | .unassignedB1 | .unassignedB2 | .unassignedB3 | .unassignedB4 | .unassignedB5
  | .unassignedB6 | .unassignedB7 | .unassignedB8 | .unassignedB9 | .unassignedBA | .unassignedBB
  | .unassignedBC | .unassignedBD | .unassignedBE | .unassignedBF | .unassignedC0 | .unassignedC1
  | .unassignedC2 | .unassignedC3 | .unassignedC4 | .unassignedC5 | .unassignedC6 | .unassignedC7
  | .unassignedC8 | .unassignedC9 | .unassignedCA | .unassignedCB | .unassignedCC | .unassignedCD
  | .unassignedCE | .unassignedCF | .unassignedD0 | .unassignedD1 | .unassignedD2 | .unassignedD3
  | .unassignedD4 | .unassignedD5 | .unassignedD6 | .unassignedD7 | .unassignedD8 | .unassignedD9
  | .unassignedDA | .unassignedDB | .unassignedDC | .unassignedDD | .unassignedDE | .unassignedDF
  | .unassignedE0 | .unassignedE1 | .unassignedE2 | .unassignedE3 | .unassignedE4 | .unassignedE5
  | .unassignedE6 | .unassignedE7 | .unassignedE8 | .unassignedE9 | .unassignedEA | .unassignedEB
  | .unassignedEC | .unassignedED | .unassignedEE | .unassignedEF | .create | .call | .callcode | .ret
  | .delegatecall | .create2 | .unassignedF6 | .unassignedF7 | .unassignedF8 | .unassignedF9 | .staticcall
  | .unassignedFB | .unassignedFC | .revert | .invalid | .selfdestruct
    => none

end Sys2Proof
end

