-- ==== Sys2Proof/WellFormed.lean ====
section
/-! DEFINITION. Which terms of `Instr` are instructions of the block. -/

namespace Sys2Proof

/-- `PUSHn v` needs `0 <= v < 256^n` (R82, R89); no other instruction has an operand in its encoding (R91). -/
def Instr.wellFormed (i : Instr) : Bool :=
  match i.immediate with
  | some (n, v) => decide (v.toNat < 256 ^ n)
  | none => true

end Sys2Proof
end

