-- ==== Sys2Proof/Decode.lean ====
section
/-! DEFINITION. Bytes to instructions and back (30_encoding.md), the big-endian conversions of R15, the scan for jump
targets of R34, and the host's way of writing one instruction as a number. -/

namespace Sys2Proof

/-! ### Byte order (R15) -/

/-- `be(B)`: the sum of `B[k] * 256^(|B|-1-k)`, the first byte most significant. -/
def be : List Byte → Nat
  | [] => 0
  | b :: bs => b.toNat * 256 ^ bs.length + be bs

/-- `bytes_be(v, n)`: the `n` bytes `D` with `be(D) = v mod 256^n`. -/
def bytesBe (v : Nat) : Nat → List Byte
  | 0 => []
  | n + 1 => BitVec.ofNat 8 (v / 256 ^ n) :: bytesBe v n

/-- The first `n` bytes, each missing one read as 0x00 in its own position (R83, C1: the low-order side). -/
def takePadded (n : Nat) (bs : List Byte) : List Byte :=
  (bs ++ List.replicate n 0).take n

/-! ### Length (R81) -/

/-- How many immediate bytes follow the opcode byte: `op - 0x5F` for `0x60 <= op <= 0x7F`, else none. -/
def pushLength (op : Byte) : Nat :=
  if 0x60 ≤ op.toNat ∧ op.toNat ≤ 0x7F then op.toNat - 0x5F else 0

/-! ### The opcode map of R85: row `hi`, column `lo` -/

/-- Bytes 0x00 to 0x0F (the row `0_` of R85's map). -/
def opcodeRow0 : List Instr :=
  [.stop, .add, .mul, .sub, .div, .sdiv, .mod, .smod, .addmod, .mulmod, .exp, .signextend,
   .unassigned0C, .unassigned0D, .unassigned0E, .unassigned0F]

/-- Bytes 0x10 to 0x1F (the row `1_` of R85's map). -/
def opcodeRow1 : List Instr :=
  [.lt, .gt, .slt, .sgt, .eq, .iszero, .and, .or, .xor, .not, .byte, .shl, .shr, .sar,
   .unassigned1E, .unassigned1F]

/-- Bytes 0x20 to 0x2F (the row `2_` of R85's map). -/
def opcodeRow2 : List Instr :=
  [.sha3, .unassigned21, .unassigned22, .unassigned23, .unassigned24, .unassigned25, .unassigned26,
   .unassigned27, .unassigned28, .unassigned29, .unassigned2A, .unassigned2B, .unassigned2C,
   .unassigned2D, .unassigned2E, .unassigned2F]

/-- Bytes 0x30 to 0x3F (the row `3_` of R85's map). -/
def opcodeRow3 : List Instr :=
  [.address, .balance, .origin, .caller, .callvalue, .calldataload, .calldatasize, .calldatacopy,
   .codesize, .codecopy, .gasprice, .extcodesize, .extcodecopy, .returndatasize, .returndatacopy,
   .extcodehash]

/-- Bytes 0x40 to 0x4F (the row `4_` of R85's map). -/
def opcodeRow4 : List Instr :=
  [.blockhash, .coinbase, .timestamp, .number, .prevrandao, .gaslimit, .chainid, .selfbalance,
   .basefee, .blobhash, .blobbasefee, .unassigned4B, .unassigned4C, .unassigned4D, .unassigned4E,
   .unassigned4F]

/-- Bytes 0x50 to 0x5F (the row `5_` of R85's map). -/
def opcodeRow5 : List Instr :=
  [.pop, .mload, .mstore, .mstore8, .sload, .sstore, .jump, .jumpi, .pc, .msize, .gas, .jumpdest,
   .tload, .tstore, .mcopy, .push0]

/-- Bytes 0x60 to 0x6F (the row `6_` of R85's map). -/
def opcodeRow6 (v : Word) : List Instr :=
  [.push1 v, .push2 v, .push3 v, .push4 v, .push5 v, .push6 v, .push7 v, .push8 v, .push9 v,
   .push10 v, .push11 v, .push12 v, .push13 v, .push14 v, .push15 v, .push16 v]

/-- Bytes 0x70 to 0x7F (the row `7_` of R85's map). -/
def opcodeRow7 (v : Word) : List Instr :=
  [.push17 v, .push18 v, .push19 v, .push20 v, .push21 v, .push22 v, .push23 v, .push24 v,
   .push25 v, .push26 v, .push27 v, .push28 v, .push29 v, .push30 v, .push31 v, .push32 v]

/-- Bytes 0x80 to 0x8F (the row `8_` of R85's map). -/
def opcodeRow8 : List Instr :=
  [.dup1, .dup2, .dup3, .dup4, .dup5, .dup6, .dup7, .dup8, .dup9, .dup10, .dup11, .dup12, .dup13,
   .dup14, .dup15, .dup16]

/-- Bytes 0x90 to 0x9F (the row `9_` of R85's map). -/
def opcodeRow9 : List Instr :=
  [.swap1, .swap2, .swap3, .swap4, .swap5, .swap6, .swap7, .swap8, .swap9, .swap10, .swap11,
   .swap12, .swap13, .swap14, .swap15, .swap16]

/-- Bytes 0xA0 to 0xAF (the row `A_` of R85's map). -/
def opcodeRowA : List Instr :=
  [.log0, .log1, .log2, .log3, .log4, .unassignedA5, .unassignedA6, .unassignedA7, .unassignedA8,
   .unassignedA9, .unassignedAA, .unassignedAB, .unassignedAC, .unassignedAD, .unassignedAE,
   .unassignedAF]

/-- Bytes 0xB0 to 0xBF (the row `B_` of R85's map). -/
def opcodeRowB : List Instr :=
  [.unassignedB0, .unassignedB1, .unassignedB2, .unassignedB3, .unassignedB4, .unassignedB5,
   .unassignedB6, .unassignedB7, .unassignedB8, .unassignedB9, .unassignedBA, .unassignedBB,
   .unassignedBC, .unassignedBD, .unassignedBE, .unassignedBF]

/-- Bytes 0xC0 to 0xCF (the row `C_` of R85's map). -/
def opcodeRowC : List Instr :=
  [.unassignedC0, .unassignedC1, .unassignedC2, .unassignedC3, .unassignedC4, .unassignedC5,
   .unassignedC6, .unassignedC7, .unassignedC8, .unassignedC9, .unassignedCA, .unassignedCB,
   .unassignedCC, .unassignedCD, .unassignedCE, .unassignedCF]

/-- Bytes 0xD0 to 0xDF (the row `D_` of R85's map). -/
def opcodeRowD : List Instr :=
  [.unassignedD0, .unassignedD1, .unassignedD2, .unassignedD3, .unassignedD4, .unassignedD5,
   .unassignedD6, .unassignedD7, .unassignedD8, .unassignedD9, .unassignedDA, .unassignedDB,
   .unassignedDC, .unassignedDD, .unassignedDE, .unassignedDF]

/-- Bytes 0xE0 to 0xEF (the row `E_` of R85's map). -/
def opcodeRowE : List Instr :=
  [.unassignedE0, .unassignedE1, .unassignedE2, .unassignedE3, .unassignedE4, .unassignedE5,
   .unassignedE6, .unassignedE7, .unassignedE8, .unassignedE9, .unassignedEA, .unassignedEB,
   .unassignedEC, .unassignedED, .unassignedEE, .unassignedEF]

/-- Bytes 0xF0 to 0xFF (the row `F_` of R85's map). -/
def opcodeRowF : List Instr :=
  [.create, .call, .callcode, .ret, .delegatecall, .create2, .unassignedF6, .unassignedF7,
   .unassignedF8, .unassignedF9, .staticcall, .unassignedFB, .unassignedFC, .revert, .invalid,
   .selfdestruct]

/-- Row `hi` of the map of R85 (the high nibble of the byte); `v` is the immediate of a PUSH byte. -/
def opcodeRow (hi : Nat) (v : Word) : List Instr :=
  match hi with
  | 0 => opcodeRow0
  | 1 => opcodeRow1
  | 2 => opcodeRow2
  | 3 => opcodeRow3
  | 4 => opcodeRow4
  | 5 => opcodeRow5
  | 6 => opcodeRow6 v
  | 7 => opcodeRow7 v
  | 8 => opcodeRow8
  | 9 => opcodeRow9
  | 10 => opcodeRowA
  | 11 => opcodeRowB
  | 12 => opcodeRowC
  | 13 => opcodeRowD
  | 14 => opcodeRowE
  | _ => opcodeRowF

/-- Every row has its 16 columns: "every byte value is exactly one of" the three classes (R88). -/
theorem opcodeRow_length (hi : Nat) (v : Word) : (opcodeRow hi v).length = 16 := by
  unfold opcodeRow
  split <;> rfl

/-- The instruction a byte selects (R251: "a pure function of the one byte"). -/
def instrOf (op : Byte) (v : Word) : Instr :=
  (opcodeRow (op.toNat / 16) v)[op.toNat % 16]'(by rw [opcodeRow_length]; exact Nat.mod_lt _ (by decide))

/-! ### The decoder -/

/-- Why there is no instruction to decode. -/
inductive DecodeError where
  /-- No byte is left: `pc >= |code|`, the implicit stop of R26 and R250. -/
  | endOfCode
  deriving DecidableEq, Repr

/-- The instruction at the front of the bytes (R80 to R83). Total: it fails on the empty sequence only (R92). -/
def decode : List Byte → Except DecodeError Instr
  | [] => .error .endOfCode
  | op :: rest => .ok (instrOf op (BitVec.ofNat 256 (be (takePadded (pushLength op) rest))))

/-! ### The encoder -/

/-- The opcode byte of an instruction (R84, R85). -/
def opcodeByte : Instr → Byte
  | .stop => 0x00#8
  | .add => 0x01#8
  | .mul => 0x02#8
  | .sub => 0x03#8
  | .div => 0x04#8
  | .sdiv => 0x05#8
  | .mod => 0x06#8
  | .smod => 0x07#8
  | .addmod => 0x08#8
  | .mulmod => 0x09#8
  | .exp => 0x0A#8
  | .signextend => 0x0B#8
  | .unassigned0C => 0x0C#8
  | .unassigned0D => 0x0D#8
  | .unassigned0E => 0x0E#8
  | .unassigned0F => 0x0F#8
  | .lt => 0x10#8
  | .gt => 0x11#8
  | .slt => 0x12#8
  | .sgt => 0x13#8
  | .eq => 0x14#8
  | .iszero => 0x15#8
  | .and => 0x16#8
  | .or => 0x17#8
  | .xor => 0x18#8
  | .not => 0x19#8
  | .byte => 0x1A#8
  | .shl => 0x1B#8
  | .shr => 0x1C#8
  | .sar => 0x1D#8
  | .unassigned1E => 0x1E#8
  | .unassigned1F => 0x1F#8
  | .sha3 => 0x20#8
  | .unassigned21 => 0x21#8
  | .unassigned22 => 0x22#8
  | .unassigned23 => 0x23#8
  | .unassigned24 => 0x24#8
  | .unassigned25 => 0x25#8
  | .unassigned26 => 0x26#8
  | .unassigned27 => 0x27#8
  | .unassigned28 => 0x28#8
  | .unassigned29 => 0x29#8
  | .unassigned2A => 0x2A#8
  | .unassigned2B => 0x2B#8
  | .unassigned2C => 0x2C#8
  | .unassigned2D => 0x2D#8
  | .unassigned2E => 0x2E#8
  | .unassigned2F => 0x2F#8
  | .address => 0x30#8
  | .balance => 0x31#8
  | .origin => 0x32#8
  | .caller => 0x33#8
  | .callvalue => 0x34#8
  | .calldataload => 0x35#8
  | .calldatasize => 0x36#8
  | .calldatacopy => 0x37#8
  | .codesize => 0x38#8
  | .codecopy => 0x39#8
  | .gasprice => 0x3A#8
  | .extcodesize => 0x3B#8
  | .extcodecopy => 0x3C#8
  | .returndatasize => 0x3D#8
  | .returndatacopy => 0x3E#8
  | .extcodehash => 0x3F#8
  | .blockhash => 0x40#8
  | .coinbase => 0x41#8
  | .timestamp => 0x42#8
  | .number => 0x43#8
  | .prevrandao => 0x44#8
  | .gaslimit => 0x45#8
  | .chainid => 0x46#8
  | .selfbalance => 0x47#8
  | .basefee => 0x48#8
  | .blobhash => 0x49#8
  | .blobbasefee => 0x4A#8
  | .unassigned4B => 0x4B#8
  | .unassigned4C => 0x4C#8
  | .unassigned4D => 0x4D#8
  | .unassigned4E => 0x4E#8
  | .unassigned4F => 0x4F#8
  | .pop => 0x50#8
  | .mload => 0x51#8
  | .mstore => 0x52#8
  | .mstore8 => 0x53#8
  | .sload => 0x54#8
  | .sstore => 0x55#8
  | .jump => 0x56#8
  | .jumpi => 0x57#8
  | .pc => 0x58#8
  | .msize => 0x59#8
  | .gas => 0x5A#8
  | .jumpdest => 0x5B#8
  | .tload => 0x5C#8
  | .tstore => 0x5D#8
  | .mcopy => 0x5E#8
  | .push0 => 0x5F#8
  | .push1 _ => 0x60#8
  | .push2 _ => 0x61#8
  | .push3 _ => 0x62#8
  | .push4 _ => 0x63#8
  | .push5 _ => 0x64#8
  | .push6 _ => 0x65#8
  | .push7 _ => 0x66#8
  | .push8 _ => 0x67#8
  | .push9 _ => 0x68#8
  | .push10 _ => 0x69#8
  | .push11 _ => 0x6A#8
  | .push12 _ => 0x6B#8
  | .push13 _ => 0x6C#8
  | .push14 _ => 0x6D#8
  | .push15 _ => 0x6E#8
  | .push16 _ => 0x6F#8
  | .push17 _ => 0x70#8
  | .push18 _ => 0x71#8
  | .push19 _ => 0x72#8
  | .push20 _ => 0x73#8
  | .push21 _ => 0x74#8
  | .push22 _ => 0x75#8
  | .push23 _ => 0x76#8
  | .push24 _ => 0x77#8
  | .push25 _ => 0x78#8
  | .push26 _ => 0x79#8
  | .push27 _ => 0x7A#8
  | .push28 _ => 0x7B#8
  | .push29 _ => 0x7C#8
  | .push30 _ => 0x7D#8
  | .push31 _ => 0x7E#8
  | .push32 _ => 0x7F#8
  | .dup1 => 0x80#8
  | .dup2 => 0x81#8
  | .dup3 => 0x82#8
  | .dup4 => 0x83#8
  | .dup5 => 0x84#8
  | .dup6 => 0x85#8
  | .dup7 => 0x86#8
  | .dup8 => 0x87#8
  | .dup9 => 0x88#8
  | .dup10 => 0x89#8
  | .dup11 => 0x8A#8
  | .dup12 => 0x8B#8
  | .dup13 => 0x8C#8
  | .dup14 => 0x8D#8
  | .dup15 => 0x8E#8
  | .dup16 => 0x8F#8
  | .swap1 => 0x90#8
  | .swap2 => 0x91#8
  | .swap3 => 0x92#8
  | .swap4 => 0x93#8
  | .swap5 => 0x94#8
  | .swap6 => 0x95#8
  | .swap7 => 0x96#8
  | .swap8 => 0x97#8
  | .swap9 => 0x98#8
  | .swap10 => 0x99#8
  | .swap11 => 0x9A#8
  | .swap12 => 0x9B#8
  | .swap13 => 0x9C#8
  | .swap14 => 0x9D#8
  | .swap15 => 0x9E#8
  | .swap16 => 0x9F#8
  | .log0 => 0xA0#8
  | .log1 => 0xA1#8
  | .log2 => 0xA2#8
  | .log3 => 0xA3#8
  | .log4 => 0xA4#8
  | .unassignedA5 => 0xA5#8
  | .unassignedA6 => 0xA6#8
  | .unassignedA7 => 0xA7#8
  | .unassignedA8 => 0xA8#8
  | .unassignedA9 => 0xA9#8
  | .unassignedAA => 0xAA#8
  | .unassignedAB => 0xAB#8
  | .unassignedAC => 0xAC#8
  | .unassignedAD => 0xAD#8
  | .unassignedAE => 0xAE#8
  | .unassignedAF => 0xAF#8
  | .unassignedB0 => 0xB0#8
  | .unassignedB1 => 0xB1#8
  | .unassignedB2 => 0xB2#8
  | .unassignedB3 => 0xB3#8
  | .unassignedB4 => 0xB4#8
  | .unassignedB5 => 0xB5#8
  | .unassignedB6 => 0xB6#8
  | .unassignedB7 => 0xB7#8
  | .unassignedB8 => 0xB8#8
  | .unassignedB9 => 0xB9#8
  | .unassignedBA => 0xBA#8
  | .unassignedBB => 0xBB#8
  | .unassignedBC => 0xBC#8
  | .unassignedBD => 0xBD#8
  | .unassignedBE => 0xBE#8
  | .unassignedBF => 0xBF#8
  | .unassignedC0 => 0xC0#8
  | .unassignedC1 => 0xC1#8
  | .unassignedC2 => 0xC2#8
  | .unassignedC3 => 0xC3#8
  | .unassignedC4 => 0xC4#8
  | .unassignedC5 => 0xC5#8
  | .unassignedC6 => 0xC6#8
  | .unassignedC7 => 0xC7#8
  | .unassignedC8 => 0xC8#8
  | .unassignedC9 => 0xC9#8
  | .unassignedCA => 0xCA#8
  | .unassignedCB => 0xCB#8
  | .unassignedCC => 0xCC#8
  | .unassignedCD => 0xCD#8
  | .unassignedCE => 0xCE#8
  | .unassignedCF => 0xCF#8
  | .unassignedD0 => 0xD0#8
  | .unassignedD1 => 0xD1#8
  | .unassignedD2 => 0xD2#8
  | .unassignedD3 => 0xD3#8
  | .unassignedD4 => 0xD4#8
  | .unassignedD5 => 0xD5#8
  | .unassignedD6 => 0xD6#8
  | .unassignedD7 => 0xD7#8
  | .unassignedD8 => 0xD8#8
  | .unassignedD9 => 0xD9#8
  | .unassignedDA => 0xDA#8
  | .unassignedDB => 0xDB#8
  | .unassignedDC => 0xDC#8
  | .unassignedDD => 0xDD#8
  | .unassignedDE => 0xDE#8
  | .unassignedDF => 0xDF#8
  | .unassignedE0 => 0xE0#8
  | .unassignedE1 => 0xE1#8
  | .unassignedE2 => 0xE2#8
  | .unassignedE3 => 0xE3#8
  | .unassignedE4 => 0xE4#8
  | .unassignedE5 => 0xE5#8
  | .unassignedE6 => 0xE6#8
  | .unassignedE7 => 0xE7#8
  | .unassignedE8 => 0xE8#8
  | .unassignedE9 => 0xE9#8
  | .unassignedEA => 0xEA#8
  | .unassignedEB => 0xEB#8
  | .unassignedEC => 0xEC#8
  | .unassignedED => 0xED#8
  | .unassignedEE => 0xEE#8
  | .unassignedEF => 0xEF#8
  | .create => 0xF0#8
  | .call => 0xF1#8
  | .callcode => 0xF2#8
  | .ret => 0xF3#8
  | .delegatecall => 0xF4#8
  | .create2 => 0xF5#8
  | .unassignedF6 => 0xF6#8
  | .unassignedF7 => 0xF7#8
  | .unassignedF8 => 0xF8#8
  | .unassignedF9 => 0xF9#8
  | .staticcall => 0xFA#8
  | .unassignedFB => 0xFB#8
  | .unassignedFC => 0xFC#8
  | .revert => 0xFD#8
  | .invalid => 0xFE#8
  | .selfdestruct => 0xFF#8

/-- The bytes of an instruction: the opcode byte, then a PUSH's immediate bytes, most significant first (R80, R89). -/
def encode (i : Instr) : List Byte :=
  opcodeByte i ::
    match i.immediate with
    | some (n, v) => bytesBe v.toNat n
    | none => []

/-- The length of an instruction in bytes: 1, or `1 + n` for PUSHn (R80). -/
def Instr.length (i : Instr) : Nat :=
  match i.immediate with
  | some (n, _) => 1 + n
  | none => 1

/-- A program's bytecode: its instructions one after the other (R89). -/
def assemble (is : List Instr) : List Byte :=
  is.flatMap encode

/-! ### Jump targets (R34) -/

/-- The scan of R34 from index `i`, `skip` more bytes being PUSH immediate data. -/
def jumpdestsFrom : List Byte → Nat → Nat → List Nat
  | [], _, _ => []
  | _ :: bs, skip + 1, i => jumpdestsFrom bs skip (i + 1)
  | b :: bs, 0, i =>
    if b = 0x5B#8 then i :: jumpdestsFrom bs 0 (i + 1) else jumpdestsFrom bs (pushLength b) (i + 1)

/-- `JD`: the positions of JUMPDEST opcodes, in rising order; a 0x5B inside PUSH data is none of them (R34, D10). -/
def jumpdests (code : List Byte) : List Nat :=
  jumpdestsFrom code 0 0

/-! ### One instruction as a number -/

/-- The bytes of `w`, least significant first: the byte order of spec/opcode_table.json's bit numbering, in which bit 0
is the least significant bit of the first byte. -/
def wordBytes (n w : Nat) : List Byte :=
  (List.range n).map fun k => BitVec.ofNat 8 (w / 256 ^ k)

/-- The longest instruction, PUSH32 (R204). -/
def longestInstr : Nat := 33

/-- What the decoder reads from an instruction whose bits are `w`, every bit above `nbits` being 0. -/
def decodeTableWord (nbits w : Nat) : Option Instr :=
  match decode (wordBytes longestInstr (w % 2 ^ nbits)) with
  | .ok i => some i
  | .error _ => none

end Sys2Proof
end

