-- ==== Sys2Proof/Machine/State.lean ====
section
/-! DEFINITION. The state of the block (10_state.md), the reasons a step has no next state, and the state after
reset. -/

namespace Sys2Proof.Machine

/-- The halt-reason register `halt` (R28). -/
inductive HaltReason where
  | running
  | stopped
  | returned
  | reverted
  | invalid
  deriving DecidableEq, Repr

/-- The fault-kind register `fault` (R29, R290); `noFault` is the spec's None. -/
inductive FaultKind where
  | noFault
  | stackUnderflow
  | stackOverflow
  | invalidJumpDestination
  | memoryOutOfBounds
  | invalidOpcode
  deriving DecidableEq, Repr

/-- The environment snapshot `env` (R36): "read-only struct captured at context creation". -/
structure Env where
  address : BitVec 160
  caller : BitVec 160
  origin : BitVec 160
  callvalue : Word
  chainid : Word
  number : Word
  timestamp : Word
  coinbase : BitVec 160
  gaslimit : Word
  /-- Equal to `|calldata|`, set at creation (R36, D16). -/
  calldatasize : Nat
  deriving DecidableEq, Repr

/-- The memory `M` (R33, R50): its length and its bytes. A byte below `len` that no cell lists is 0x00 ("zero-filling
new bytes", R55). Log entry 6. -/
structure Memory where
  len : Nat
  cells : List Host.Cell
  deriving DecidableEq, Repr

/-- The state of the block: the ExecutionContext of R20 with `JD`, the fault kind and the refusal mark. -/
structure State where
  /-- `S` (R21), top first; the spec writes it bottom to top (log entry 7). -/
  stack : List Word
  /-- The program counter (R24). -/
  pc : Nat
  /-- The memory (R33). -/
  mem : Memory
  /-- The bytecode (R31). -/
  code : List Byte
  /-- The input data (R32). -/
  calldata : List Byte
  /-- The environment snapshot (R36). -/
  env : Env
  /-- The halt reason (R28). -/
  halt : HaltReason
  /-- Why the block halted Invalid (R29). -/
  fault : FaultKind
  /-- The return data (R30); absent is the empty sequence (D27, log entry 13). -/
  rd : List Byte
  /-- The jump-target set (R34), in rising order (log entry 8). -/
  jd : List Nat
  /-- The refusal mark (R35). -/
  refused : Bool
  /-- The parameters of R10: the model's own field (log entry 1). -/
  params : Params
  deriving DecidableEq, Repr

/-- Why a step has no next state and the machine is at its end. The five faults of the block are not here: taking one
is a next state with `halt = invalid` (R291). DEDUCED (log entry 3). -/
inductive Fault where
  /-- Raised by `step` in a state with `halt` other than running: "a state with `halt != Running` has no successor"
  (R281). Safe: the hardware has no step there either. -/
  | terminated (reason : HaltReason)
  deriving DecidableEq, Repr

/-- Why the model gives no next state. -/
inductive Refusal where
  /-- Raised by `exec` for an instruction that has no meaning yet; no arm answers it. Safe: nothing is claimed. -/
  | notModelled (mnemonic : String)
  /-- Raised by `step` in a state whose refusal mark is set: "the state has no further step" (R35, R86). Safe: nothing
  is claimed about such a run. -/
  | refusalMark
  deriving DecidableEq, Repr

/-- An environment with every field 0. -/
def Env.zero : Env where
  address := 0
  caller := 0
  origin := 0
  callvalue := 0
  chainid := 0
  number := 0
  timestamp := 0
  coinbase := 0
  gaslimit := 0
  calldatasize := 0

/-- The memory after reset: "empty, |M| = 0" (R42). -/
def Memory.empty : Memory where
  len := 0
  cells := []

/-- The state right after creation (R42, R320) from the empty code, the empty calldata and the zero environment.
DESIGN CHOICE (log entries 1 and 2): the inputs and the open parameters; every other field is R42's. -/
def State.reset : State where
  stack := []
  pc := 0
  mem := Memory.empty
  code := []
  calldata := []
  env := Env.zero
  halt := .running
  fault := .noFault
  rd := []
  jd := jumpdests []
  refused := false
  params := Params.default

end Sys2Proof.Machine
end

