-- ==== Sys2Proof/Machine/Ops.lean ====
section
/-! DEFINITION. The named operations over the state: register updates, taking a fault, halting, refusing, memory with
its expansion and ceiling (20_memory.md), and the instruction fetch. -/

namespace Sys2Proof.Machine

/-- What an instruction answers. -/
abbrev Result := Host.Outcome State Fault Refusal

/-! ### Registers -/

def State.setStack (st : List Word) (s : State) : State := { s with stack := st }

def State.setMem (m : Memory) (s : State) : State := { s with mem := m }

/-- `pc <- target` (R17). -/
def State.setPc (t : Nat) (s : State) : State := { s with pc := t }

/-- `pc <- pc + n`; `pc` does not wrap (R25, R26). -/
def State.advance (n : Nat) (s : State) : State := { s with pc := s.pc + n }

/-! ### Faults, halts and the refusal mark -/

/-- Fault entry, `raise Fault(kind)` (R291): halt Invalid, the kind recorded, return data empty; stack, memory and pc
stay as they are at the start of the instruction (R292). There is no way back: the block has no handler, no vector and
no return from a trap (R302, R303), so no such operation stands beside this one. -/
def State.raise (k : FaultKind) (s : State) : State :=
  { s with halt := .invalid, fault := k, rd := [] }

/-- `halt(reason, data)` (R280): `pc`, stack, memory and `fault` are not written. -/
def State.haltWith (r : HaltReason) (data : List Byte) (s : State) : State :=
  { s with halt := r, rd := data }

/-- `refused <- true` (R86): "nothing else changes". -/
def State.refuse (s : State) : State := { s with refused := true }

/-- The INVALID byte and the class U bytes (R87): `raise Fault(InvalidOpcode)`. -/
def invalidOpcode (s : State) : Result := .next (s.raise .invalidOpcode)

/-- A class X byte (R86): the refusal mark, or InvalidOpcode, by `UNLISTED_CLASS`. DEDUCED: the mark is a next state (log
entry 4). -/
def unlisted (s : State) : Result :=
  match s.params.unlistedClass with
  | .refused => .next s.refuse
  | .invalidOpcode => invalidOpcode s

/-- The 3-bit encoding of `halt` (R28, D14); 5, 6 and 7 are never written. -/
def HaltReason.code : HaltReason → BitVec 3
  | .running => 0
  | .stopped => 1
  | .returned => 2
  | .reverted => 3
  | .invalid => 4

/-- The 3-bit encoding of `fault` (R29, R290, D14); 6 and 7 are never written. -/
def FaultKind.code : FaultKind → BitVec 3
  | .noFault => 0
  | .stackUnderflow => 1
  | .stackOverflow => 2
  | .invalidJumpDestination => 3
  | .memoryOutOfBounds => 4
  | .invalidOpcode => 5

/-! ### Memory cells -/

/-- The byte a cell list gives an address; an unlisted address reads 0x00 (R33, R55). -/
def cellAt (a : Nat) : List Host.Cell → Byte
  | [] => 0#8
  | (k, b) :: rest => if k = a then b else cellAt a rest

/-- Writes one byte, keeping the addresses strictly rising and no 0x00 listed. -/
def setCell (a : Nat) (b : Byte) : List Host.Cell → List Host.Cell
  | [] => if b = 0#8 then [] else [(a, b)]
  | (k, c) :: rest =>
    if k < a then (k, c) :: setCell a b rest
    else if k = a then (if b = 0#8 then rest else (a, b) :: rest)
    else (if b = 0#8 then (k, c) :: rest else (a, b) :: (k, c) :: rest)

/-- Addresses at least `lo`, strictly rising, below `len`, and no byte 0x00 listed. -/
def cellsWf (len : Nat) : Nat → List Host.Cell → Bool
  | _, [] => true
  | lo, (k, b) :: rest => decide (lo ≤ k) && decide (k < len) && decide (b ≠ 0#8) && cellsWf len (k + 1) rest

/-- The canonical form of memory: the length a multiple of 32 (R50) and the cells in canonical order. -/
def Memory.wf (m : Memory) : Bool :=
  decide (m.len % 32 = 0) && cellsWf m.len 0 m.cells

/-- `M[a]`. -/
def Memory.readByte (m : Memory) (a : Nat) : Byte := cellAt a m.cells

/-- `M[off .. off + size)`. -/
def Memory.bytes (m : Memory) (off size : Nat) : List Byte :=
  (List.range size).map fun k => m.readByte (off + k)

/-- `M[a] <- b`. -/
def Memory.storeByte (m : Memory) (a : Nat) (b : Byte) : Memory :=
  { m with cells := setCell a b m.cells }

/-- `M[off + k] <- B[k]` for every `k` (R58). -/
def Memory.storeBytes (m : Memory) : Nat → List Byte → Memory
  | _, [] => m
  | off, b :: bs => (m.storeByte off b).storeBytes (off + 1) bs

/-! ### Expansion and the ceiling (R54 to R56) -/

/-- `ceil32(x) = 32 * ceil(x / 32)` (R14). -/
def ceil32 (x : Nat) : Nat := 32 * ((x + 31) / 32)

/-- The new length when an access ends at `e`: new bytes are 0x00, which an unlisted cell reads. -/
def Memory.grow (m : Memory) (e : Nat) : Memory :=
  if m.len < e then { m with len := ceil32 e } else m

/-- `expand(off, size)` (R55): `none` is MemoryOutOfBounds, checked before anything changes (R54). `off` and `size` are
unbounded natural numbers (R11). -/
def Memory.expand (p : Params) (off size : Nat) (m : Memory) : Option Memory :=
  if size = 0 ∧ p.zeroSizeExpands = false then some m
  else if p.memCeiling < off + size then none
  else some (m.grow (off + size))

/-- `MemRead(off, size)` (R57): the bytes and the expanded memory go to `k`. -/
def readRange (off size : Nat) (s : State) (k : List Byte → State → Result) : Result :=
  match s.mem.expand s.params off size with
  | none => .next (s.raise .memoryOutOfBounds)
  | some m => k (m.bytes off size) (s.setMem m)

/-- `MemWrite(off, |bs|, bs)` (R58): the state with the bytes written goes to `k`. -/
def writeRange (off : Nat) (bs : List Byte) (s : State) (k : State → Result) : Result :=
  match s.mem.expand s.params off bs.length with
  | none => .next (s.raise .memoryOutOfBounds)
  | some m => k (s.setMem (m.storeBytes off bs))

/-! ### Fetch -/

/-- The bytes from `pc` on (R31, R81); the decoder completes a truncated immediate (R83). -/
def State.fetch (s : State) : List Byte := s.code.drop s.pc

/-- What a step does when no byte is left at `pc` (R26, R250): `halt(Stopped, [])`, `fault` stays None. -/
def implicitStop (s : State) : Result := .next (s.haltWith .stopped [])

end Sys2Proof.Machine
end

