-- ==== Sys2Proof/Machine/Flags.lean ====
section
/-! DEFINITION. The block has no status flags and no condition codes (R27): a comparison delivers its outcome as a Word,
and JUMPI reads its condition from a Word. These two are all the flag computation there is. -/

namespace Sys2Proof.Machine

/-- `bool(c) = 1 if c else 0` (R14). -/
def boolWord (c : Prop) [Decidable c] : Word := if c then 1 else 0

/-- JUMPI's condition: "any nonzero value is true" (R254). -/
abbrev holds (c : Word) : Prop := c ≠ 0

end Sys2Proof.Machine
end

