-- ==== Sys2Proof/Machine/Operands.lean ====
section
/-! DEFINITION. Operands: the conversions between Words and integers (R14) and the stack as every instruction reaches
it (R16, R170). -/

namespace Sys2Proof.Machine

/-! ### Conversions (R14) -/

/-- `word(i) = i mod 2^256`. -/
def word (i : Int) : Word := BitVec.ofInt 256 i

/-- `signed(v)`: the two's-complement view, in `[-2^255, 2^255)`. -/
def signed (v : Word) : Int :=
  if v.getLsbD 255 then (v.toNat : Int) - ((2 ^ 256 : Nat) : Int) else v.toNat

/-- `zext_256` of a natural number. A number of 2^256 or more is no Word: a free value (log entry 5). -/
def zext (n : Nat) : Word :=
  if n < 2 ^ 256 then BitVec.ofNat 256 n else Config.tooWide n

/-- `zext_256` of an address (R262, R36). -/
def zextAddress (a : BitVec 160) : Word := a.setWidth 256

/-! ### The stack -/

/-- `STACK_CAP` (R9). -/
def stackCap : Nat := 1024

/-- One operand: `a` the top, `rest` what is below it; StackUnderflow if `d < 1` (R170, R294). -/
def need1 (s : State) (k : Word → List Word → Result) : Result :=
  match s.stack with
  | a :: rest => k a rest
  | [] => .next (s.raise .stackUnderflow)

/-- Two operands: `a` the top, `b` below it; StackUnderflow if `d < 2` (R170, R294). -/
def need2 (s : State) (k : Word → Word → List Word → Result) : Result :=
  match s.stack with
  | a :: b :: rest => k a b rest
  | _ => .next (s.raise .stackUnderflow)

/-- An instruction that pushes one Word, pops none and is `len` bytes long; StackOverflow if the stack is full (R170,
R295; a depth past 1024 is reached by no run: log entry 14). -/
def pushWord (v : Word) (len : Nat) (s : State) : Result :=
  if stackCap ≤ s.stack.length then .next (s.raise .stackOverflow)
  else .next ((s.setStack (v :: s.stack)).advance len)

/-- A one-operand operator (R140). -/
def unary (f : Word → Word) (s : State) : Result :=
  need1 s fun a rest => .next ((s.setStack (f a :: rest)).advance 1)

/-- A two-operand operator, the top its first operand (R110, R140). -/
def binary (f : Word → Word → Word) (s : State) : Result :=
  need2 s fun a b rest => .next ((s.setStack (f a b :: rest)).advance 1)

/-- PUSHn (R172), `v` its immediate. -/
def pushImmediate (n : Nat) (v : Word) (s : State) : Result := pushWord v (1 + n) s

/-- DUPn (R205): StackUnderflow if `d < n`, then StackOverflow if the stack is full. -/
def dup (n : Nat) (s : State) : Result :=
  match s.stack[n - 1]? with
  | none => .next (s.raise .stackUnderflow)
  | some v => pushWord v 1 s

/-- SWAPn (R222): exchanges the top and the entry `n` below it; StackUnderflow if `d < n + 1`. -/
def swap (n : Nat) (s : State) : Result :=
  need1 s fun t rest =>
    match rest[n - 1]? with
    | none => .next (s.raise .stackUnderflow)
    | some u => .next ((s.setStack (u :: rest.set (n - 1) t)).advance 1)

end Sys2Proof.Machine
end

