-- ==== Sys2Proof/Machine/Arithmetic.lean ====
section
/-! DEFINITION. The arithmetic instructions of 40_arithmetic.md. `a` is the top of the stack, `b` the entry below it. -/

namespace Sys2Proof.Machine

/-- `word(a + b)` (R111). -/
def addWord (a b : Word) : Word := BitVec.ofNat 256 (a.toNat + b.toNat)

/-- `word(a * b)` (R112). -/
def mulWord (a b : Word) : Word := BitVec.ofNat 256 (a.toNat * b.toNat)

/-- `word(a - b)` (R113). -/
def subWord (a b : Word) : Word := word ((a.toNat : Int) - b.toNat)

/-- 0 if `b = 0`, else `floor(a / b)` (R114). -/
def divWord (a b : Word) : Word := if b = 0 then 0 else BitVec.ofNat 256 (a.toNat / b.toNat)

/-- 0 if `b = 0`, else `word(trunc(signed(a) / signed(b)))` (R115, D23, C2). -/
def sdivWord (a b : Word) : Word := if b = 0 then 0 else word ((signed a).tdiv (signed b))

/-- 0 if `b = 0`, else `a mod b` (R116). -/
def modWord (a b : Word) : Word := if b = 0 then 0 else BitVec.ofNat 256 (a.toNat % b.toNat)

/-- 0 if `b = 0`, else `word(s * (|signed(a)| mod |signed(b)|))` with the dividend's sign `s` (R117). -/
def smodWord (a b : Word) : Word :=
  if b = 0 then 0
  else word ((if signed a < 0 then -1 else 1) * (((signed a).natAbs % (signed b).natAbs : Nat) : Int))

/-- `base ^ e` modulo 2^256 by squaring, for an exponent below `2 ^ bits`. -/
def powWord : Nat → Word → Nat → Word
  | 0, _, _ => 1
  | bits + 1, base, e =>
    if e % 2 = 1 then base * powWord bits (base * base) (e / 2) else powWord bits (base * base) (e / 2)

/-- `word(a ^ b)` (R118, D22), computed by squaring; Laws/Arithmetic.lean proves it equal (log entry 10). -/
def expWord (a b : Word) : Word := powWord 256 a b.toNat

/-- The low `a + 1` bytes of `b`, their sign bit `8a + 7` copied into every higher bit (R119, D21). -/
def signextendWord (a b : Word) : Word :=
  if 31 ≤ a.toNat then b
  else
    let t := 8 * a.toNat + 7
    if b.getLsbD t then b ||| BitVec.ofNat 256 (2 ^ 256 - 2 ^ (t + 1))
    else b &&& BitVec.ofNat 256 (2 ^ (t + 1) - 1)

/-- ADD (R111). -/
def execAdd (s : State) : Result := binary addWord s

/-- MUL (R112). -/
def execMul (s : State) : Result := binary mulWord s

/-- SUB (R113). -/
def execSub (s : State) : Result := binary subWord s

/-- DIV (R114). -/
def execDiv (s : State) : Result := binary divWord s

/-- SDIV (R115). -/
def execSdiv (s : State) : Result := binary sdivWord s

/-- MOD (R116). -/
def execMod (s : State) : Result := binary modWord s

/-- SMOD (R117). -/
def execSmod (s : State) : Result := binary smodWord s

/-- EXP (R118): the top is the base. -/
def execExp (s : State) : Result := binary expWord s

/-- SIGNEXTEND (R119): the top is the byte index. -/
def execSignextend (s : State) : Result := binary signextendWord s

end Sys2Proof.Machine
end

