-- ==== Sys2Proof/Machine/Compare.lean ====
section
/-! DEFINITION. The comparison, bitwise and shift instructions of 41_compare_bitwise.md. `a` is the top of the stack. -/

namespace Sys2Proof.Machine

/-- `bool(a < b)`, unsigned (R141). -/
def ltWord (a b : Word) : Word := boolWord (a.toNat < b.toNat)

/-- `bool(a > b)`, unsigned (R142). -/
def gtWord (a b : Word) : Word := boolWord (b.toNat < a.toNat)

/-- `bool(signed(a) < signed(b))` (R143). -/
def sltWord (a b : Word) : Word := boolWord (signed a < signed b)

/-- `bool(signed(a) > signed(b))` (R144). -/
def sgtWord (a b : Word) : Word := boolWord (signed b < signed a)

/-- `bool(a = b)` (R145). -/
def eqWord (a b : Word) : Word := boolWord (a = b)

/-- `bool(a = 0)` (R146). -/
def iszeroWord (a : Word) : Word := boolWord (a = 0)

/-- Shift left: `a` the amount, `b` the value (R151, R154). -/
def shlWord (a b : Word) : Word :=
  if 256 ≤ a.toNat then 0 else BitVec.ofNat 256 (b.toNat * 2 ^ a.toNat)

/-- Logical shift right (R152, R154). -/
def shrWord (a b : Word) : Word :=
  if 256 ≤ a.toNat then 0 else BitVec.ofNat 256 (b.toNat / 2 ^ a.toNat)

/-- Arithmetic shift right (R153, R154): the quotient is rounded down. -/
def sarWord (a b : Word) : Word :=
  if 256 ≤ a.toNat then (if b.getLsbD 255 then BitVec.allOnes 256 else 0)
  else word ((signed b).fdiv ((2 ^ a.toNat : Nat) : Int))

/-- LT (R141). -/
def execLt (s : State) : Result := binary ltWord s

/-- GT (R142). -/
def execGt (s : State) : Result := binary gtWord s

/-- SLT (R143). -/
def execSlt (s : State) : Result := binary sltWord s

/-- SGT (R144). -/
def execSgt (s : State) : Result := binary sgtWord s

/-- EQ (R145). -/
def execEq (s : State) : Result := binary eqWord s

/-- ISZERO (R146). -/
def execIszero (s : State) : Result := unary iszeroWord s

/-- AND (R147). -/
def execAnd (s : State) : Result := binary (fun a b => a &&& b) s

/-- OR (R148). -/
def execOr (s : State) : Result := binary (fun a b => a ||| b) s

/-- XOR (R149). -/
def execXor (s : State) : Result := binary (fun a b => a ^^^ b) s

/-- NOT (R150): every bit inverted. -/
def execNot (s : State) : Result := unary (fun a => ~~~a) s

/-- SHL (R151). -/
def execShl (s : State) : Result := binary shlWord s

/-- SHR (R152). -/
def execShr (s : State) : Result := binary shrWord s

/-- SAR (R153). -/
def execSar (s : State) : Result := binary sarWord s

end Sys2Proof.Machine
end

