-- ==== Sys2Proof/Machine/Control.lean ====
section
/-! DEFINITION. The control-flow instructions of 44_control.md. -/

namespace Sys2Proof.Machine

/-- The transfer of JUMP and of a taken JUMPI (R253, R254, R256): `t` is compared as a full Word. `rest` is the stack
without the operands; a bad target changes nothing but the fault entry. -/
def jumpTo (t : Word) (rest : List Word) (s : State) : Result :=
  if t.toNat ∈ s.jd then .next ((s.setStack rest).setPc t.toNat)
  else .next (s.raise .invalidJumpDestination)

/-- JUMP (R253). -/
def execJump (s : State) : Result :=
  need1 s fun t rest => jumpTo t rest s

/-- JUMPI (R254): the target is checked only when the jump is taken (D11, C14). -/
def execJumpi (s : State) : Result :=
  need2 s fun t c rest =>
    if holds c then jumpTo t rest s else .next ((s.setStack rest).advance 1)

/-- PC (R255): the index of this byte. -/
def execPc (s : State) : Result := pushWord (zext s.pc) 1 s

/-- JUMPDEST (R252): "a no-op marker". -/
def execJumpdest (s : State) : Result := .next (s.advance 1)

end Sys2Proof.Machine
end

