-- ==== Sys2Proof/Machine/Halting.lean ====
section
/-! DEFINITION. The halting instructions of 46_halting.md. `pc` stays at the halting instruction (R280, D28). -/

namespace Sys2Proof.Machine

/-- STOP (R282). -/
def execStop (s : State) : Result := .next (s.haltWith .stopped [])

/-- RETURN and REVERT: the two operands are popped, the return data is the range read, with its growth (R283, R284). -/
def haltReading (r : HaltReason) (s : State) : Result :=
  need2 s fun off size rest =>
    readRange off.toNat size.toNat s fun bs t => .next ((t.setStack rest).haltWith r bs)

/-- RETURN (R283). -/
def execRet (s : State) : Result := haltReading .returned s

/-- REVERT (R284): it undoes nothing. -/
def execRevert (s : State) : Result := haltReading .reverted s

/-- INVALID (R285). -/
def execInvalid (s : State) : Result := invalidOpcode s

end Sys2Proof.Machine
end

