-- ==== Sys2Proof/Machine/Keccak.lean ====
section
/-! DEFINITION. Keccak-256 as R260 defines it: the sponge over Keccak-f[1600], rate 136 bytes, the original padding. -/

namespace Sys2Proof.Machine

/-- One lane of the state. Lane `(x, y)` is entry `x + 5y` of a list of 25. -/
abbrev Lane := BitVec 64

/-- `A[x][y]`, indices mod 5. -/
def lane (A : List Lane) (x y : Nat) : Lane := A.getD (x % 5 + 5 * (y % 5)) 0

/-- A state from its lanes, `f x y` at `(x, y)`. -/
def lanes (f : Nat → Nat → Lane) : List Lane := (List.range 25).map fun i => f (i % 5) (i / 5)

/-- `ROT[x][y]` at entry `x + 5y`; Laws/Keccak.lean checks it against R260's recurrence. -/
def rotTable : List Nat :=
  [0, 1, 62, 28, 27] ++ [36, 44, 6, 55, 20] ++ [3, 10, 43, 25, 39] ++ [41, 45, 15, 21, 8] ++ [18, 2, 61, 56, 14]

/-- `RC[r]` for the 24 rounds; Laws/Keccak.lean checks it against R260's `rc(t)`. -/
def roundConstants : List Lane :=
  [0x0000000000000001, 0x0000000000008082, 0x800000000000808A, 0x8000000080008000] ++
  [0x000000000000808B, 0x0000000080000001, 0x8000000080008081, 0x8000000000008009] ++
  [0x000000000000008A, 0x0000000000000088, 0x0000000080008009, 0x000000008000000A] ++
  [0x000000008000808B, 0x800000000000008B, 0x8000000000008089, 0x8000000000008003] ++
  [0x8000000000008002, 0x8000000000000080, 0x000000000000800A, 0x800000008000000A] ++
  [0x8000000080008081, 0x8000000000008080, 0x0000000080000001, 0x8000000080008008]

/-- theta: `C[x]` the column parities, `D[x] = C[x-1] ^ rot(C[x+1], 1)`. -/
def theta (A : List Lane) : List Lane :=
  let C := (List.range 5).map fun x => lane A x 0 ^^^ lane A x 1 ^^^ lane A x 2 ^^^ lane A x 3 ^^^ lane A x 4
  lanes fun x y => lane A x y ^^^ (C.getD ((x + 4) % 5) 0 ^^^ (C.getD ((x + 1) % 5) 0).rotateLeft 1)

/-- rho and pi: `B[y][2x+3y] = rot(A[x][y], ROT[x][y])`; the lane that lands at `(u, v)` comes from
`(x, y) = (u + 3v, u)`. -/
def rhoPi (A : List Lane) : List Lane :=
  lanes fun u v => (lane A (u + 3 * v) u).rotateLeft (rotTable.getD ((u + 3 * v) % 5 + 5 * u) 0)

/-- chi: `A[x][y] = B[x][y] ^ (~B[x+1][y] & B[x+2][y])`. -/
def chi (B : List Lane) : List Lane :=
  lanes fun x y => lane B x y ^^^ (~~~(lane B (x + 1) y) &&& lane B (x + 2) y)

/-- iota: `A[0][0] ^= RC[r]`. -/
def iota (rc : Lane) (A : List Lane) : List Lane := (lane A 0 0 ^^^ rc) :: A.tail

/-- `f`: the 24 rounds. -/
def keccakF (A : List Lane) : List Lane :=
  roundConstants.foldl (fun A rc => iota rc (chi (rhoPi (theta A)))) A

/-- Eight bytes, least significant first, as a lane. -/
def le64 (bs : List Byte) : Lane := BitVec.ofNat 64 (bs.foldr (fun b acc => b.toNat + 256 * acc) 0)

/-- A lane's eight bytes, least significant first. -/
def laneBytes (l : Lane) : List Byte := (List.range 8).map fun k => BitVec.ofNat 8 (l.toNat / 256 ^ k)

/-- `P = data ++ [0x01] ++ zero bytes`, to a multiple of 136 bytes, then the last byte with bit 7 set. -/
def keccakPad (data : List Byte) : List Byte :=
  let P := data ++ [0x01] ++ List.replicate (135 - data.length % 136) 0
  P.dropLast ++ [P.getLastD 0 ||| 0x80]

/-- Absorbs one 136-byte block: 17 lanes, then `f`. -/
def absorbBlock (A : List Lane) (block : List Byte) : List Lane :=
  keccakF (lanes fun x y =>
    let i := x + 5 * y
    if i < 17 then lane A x y ^^^ le64 ((block.drop (8 * i)).take 8) else lane A x y)

/-- Absorbs `n` blocks. -/
def absorb : Nat → List Lane → List Byte → List Lane
  | 0, A, _ => A
  | n + 1, A, P => absorb n (absorbBlock A (P.take 136)) (P.drop 136)

/-- `KECCAK256` (R10, R260, D20): 32 bytes. -/
def keccak256 (data : List Byte) : List Byte :=
  let A := absorb (data.length / 136 + 1) (List.replicate 25 0) (keccakPad data)
  laneBytes (lane A 0 0) ++ laneBytes (lane A 1 0) ++ laneBytes (lane A 2 0) ++ laneBytes (lane A 3 0)

end Sys2Proof.Machine
end

