-- ==== Sys2Proof/Machine/HashEnv.lean ====
section
/-! DEFINITION. The hashing and environment instructions of 45_hash_env.md. -/

namespace Sys2Proof.Machine

/-- SHA3 (R261, D20): the offset is the top; the digest is read big-endian. -/
def execSha3 (s : State) : Result :=
  need2 s fun off size rest =>
    readRange off.toNat size.toNat s fun bs t =>
      .next ((t.setStack (BitVec.ofNat 256 (be (keccak256 bs)) :: rest)).advance 1)

/-- ADDRESS (R263). -/
def execAddress (s : State) : Result := pushWord (zextAddress s.env.address) 1 s

/-- CALLER (R264). -/
def execCaller (s : State) : Result := pushWord (zextAddress s.env.caller) 1 s

/-- ORIGIN (R265). -/
def execOrigin (s : State) : Result := pushWord (zextAddress s.env.origin) 1 s

/-- CALLVALUE (R266). -/
def execCallvalue (s : State) : Result := pushWord s.env.callvalue 1 s

/-- CHAINID (R267). -/
def execChainid (s : State) : Result := pushWord s.env.chainid 1 s

/-- COINBASE (R268). -/
def execCoinbase (s : State) : Result := pushWord (zextAddress s.env.coinbase) 1 s

/-- NUMBER (R269). -/
def execNumber (s : State) : Result := pushWord s.env.number 1 s

/-- TIMESTAMP (R270). -/
def execTimestamp (s : State) : Result := pushWord s.env.timestamp 1 s

/-- GASLIMIT (R271). -/
def execGaslimit (s : State) : Result := pushWord s.env.gaslimit 1 s

/-- CALLDATASIZE (R272, R262): the snapshot's field, equal to `|calldata|` (D16). -/
def execCalldatasize (s : State) : Result := pushWord (zext s.env.calldatasize) 1 s

/-- `calldata[i]`, 0x00 at and past the end (R71). -/
def calldataByte (s : State) (i : Nat) : Byte := s.calldata.getD i 0

/-- CALLDATALOAD (R273, D18): 32 bytes, big-endian, zero-filled past the end. -/
def execCalldataload (s : State) : Result :=
  unary (fun off => BitVec.ofNat 256 (be ((List.range 32).map fun k => calldataByte s (off.toNat + k)))) s

/-- RETURNDATASIZE (R274, D15, C8): the constant 0. -/
def execReturndatasize (s : State) : Result := pushWord 0 1 s

/-- BALANCE (R275, D19): pops an address, pushes 0. -/
def execBalance (s : State) : Result := unary (fun _ => 0) s

/-- EXTCODESIZE (R276, D19): pops an address, pushes 0. -/
def execExtcodesize (s : State) : Result := unary (fun _ => 0) s

end Sys2Proof.Machine
end

