-- ==== Sys2Proof/Machine/MemoryOps.lean ====
section
/-! DEFINITION. The memory instructions of 43_memory_ops.md. The effective address is the popped Word, used as an
unbounded natural number (R240); the stack is checked before the ceiling (R240, R293). -/

namespace Sys2Proof.Machine

/-- MLOAD (R241): 32 bytes, big-endian; it may grow memory. -/
def execMload (s : State) : Result :=
  need1 s fun off rest =>
    readRange off.toNat 32 s fun bs t => .next ((t.setStack (BitVec.ofNat 256 (be bs) :: rest)).advance 1)

/-- MSTORE (R242): the offset is the top, the value is below it. -/
def execMstore (s : State) : Result :=
  need2 s fun off v rest =>
    writeRange off.toNat (bytesBe v.toNat 32) s fun t => .next ((t.setStack rest).advance 1)

/-- MSTORE8 (R243, D24): the byte `v mod 256`; memory grows as for a 1-byte access (C7). -/
def execMstore8 (s : State) : Result :=
  need2 s fun off v rest =>
    writeRange off.toNat [BitVec.ofNat 8 (v.toNat % 256)] s fun t => .next ((t.setStack rest).advance 1)

/-- MSIZE (R244): pushes `|M|`. -/
def execMsize (s : State) : Result := pushWord (zext s.mem.len) 1 s

end Sys2Proof.Machine
end

