-- ==== Sys2Proof/Machine/StackOps.lean ====
section
/-! DEFINITION. The stack instructions of 42_stack.md: POP, PUSH1 to PUSH32, DUP1 to DUP16, SWAP1 to SWAP16. -/

namespace Sys2Proof.Machine

/-- POP (R171): pops one entry and discards it. -/
def execPop (s : State) : Result :=
  need1 s fun _ rest => .next ((s.setStack rest).advance 1)

/-! ### PUSH1 to PUSH32: R172 with n = 1 to 32 -/

/-- PUSH1 (R173). -/
def execPush1 (v : Word) (s : State) : Result := pushImmediate 1 v s

/-- PUSH2 (R174). -/
def execPush2 (v : Word) (s : State) : Result := pushImmediate 2 v s

/-- PUSH3 (R175). -/
def execPush3 (v : Word) (s : State) : Result := pushImmediate 3 v s

/-- PUSH4 (R176). -/
def execPush4 (v : Word) (s : State) : Result := pushImmediate 4 v s

/-- PUSH5 (R177). -/
def execPush5 (v : Word) (s : State) : Result := pushImmediate 5 v s

/-- PUSH6 (R178). -/
def execPush6 (v : Word) (s : State) : Result := pushImmediate 6 v s

/-- PUSH7 (R179). -/
def execPush7 (v : Word) (s : State) : Result := pushImmediate 7 v s

/-- PUSH8 (R180). -/
def execPush8 (v : Word) (s : State) : Result := pushImmediate 8 v s

/-- PUSH9 (R181). -/
def execPush9 (v : Word) (s : State) : Result := pushImmediate 9 v s

/-- PUSH10 (R182). -/
def execPush10 (v : Word) (s : State) : Result := pushImmediate 10 v s

/-- PUSH11 (R183). -/
def execPush11 (v : Word) (s : State) : Result := pushImmediate 11 v s

/-- PUSH12 (R184). -/
def execPush12 (v : Word) (s : State) : Result := pushImmediate 12 v s

/-- PUSH13 (R185). -/
def execPush13 (v : Word) (s : State) : Result := pushImmediate 13 v s

/-- PUSH14 (R186). -/
def execPush14 (v : Word) (s : State) : Result := pushImmediate 14 v s

/-- PUSH15 (R187). -/
def execPush15 (v : Word) (s : State) : Result := pushImmediate 15 v s

/-- PUSH16 (R188). -/
def execPush16 (v : Word) (s : State) : Result := pushImmediate 16 v s

/-- PUSH17 (R189). -/
def execPush17 (v : Word) (s : State) : Result := pushImmediate 17 v s

/-- PUSH18 (R190). -/
def execPush18 (v : Word) (s : State) : Result := pushImmediate 18 v s

/-- PUSH19 (R191). -/
def execPush19 (v : Word) (s : State) : Result := pushImmediate 19 v s

/-- PUSH20 (R192). -/
def execPush20 (v : Word) (s : State) : Result := pushImmediate 20 v s

/-- PUSH21 (R193). -/
def execPush21 (v : Word) (s : State) : Result := pushImmediate 21 v s

/-- PUSH22 (R194). -/
def execPush22 (v : Word) (s : State) : Result := pushImmediate 22 v s

/-- PUSH23 (R195). -/
def execPush23 (v : Word) (s : State) : Result := pushImmediate 23 v s

/-- PUSH24 (R196). -/
def execPush24 (v : Word) (s : State) : Result := pushImmediate 24 v s

/-- PUSH25 (R197). -/
def execPush25 (v : Word) (s : State) : Result := pushImmediate 25 v s

/-- PUSH26 (R198). -/
def execPush26 (v : Word) (s : State) : Result := pushImmediate 26 v s

/-- PUSH27 (R199). -/
def execPush27 (v : Word) (s : State) : Result := pushImmediate 27 v s

/-- PUSH28 (R200). -/
def execPush28 (v : Word) (s : State) : Result := pushImmediate 28 v s

/-- PUSH29 (R201). -/
def execPush29 (v : Word) (s : State) : Result := pushImmediate 29 v s

/-- PUSH30 (R202). -/
def execPush30 (v : Word) (s : State) : Result := pushImmediate 30 v s

/-- PUSH31 (R203). -/
def execPush31 (v : Word) (s : State) : Result := pushImmediate 31 v s

/-- PUSH32 (R204). -/
def execPush32 (v : Word) (s : State) : Result := pushImmediate 32 v s

/-! ### DUP1 to DUP16: R205 with n = 1 to 16 -/

/-- DUP1 (R206). -/
def execDup1 (s : State) : Result := dup 1 s

/-- DUP2 (R207). -/
def execDup2 (s : State) : Result := dup 2 s

/-- DUP3 (R208). -/
def execDup3 (s : State) : Result := dup 3 s

/-- DUP4 (R209). -/
def execDup4 (s : State) : Result := dup 4 s

/-- DUP5 (R210). -/
def execDup5 (s : State) : Result := dup 5 s

/-- DUP6 (R211). -/
def execDup6 (s : State) : Result := dup 6 s

/-- DUP7 (R212). -/
def execDup7 (s : State) : Result := dup 7 s

/-- DUP8 (R213). -/
def execDup8 (s : State) : Result := dup 8 s

/-- DUP9 (R214). -/
def execDup9 (s : State) : Result := dup 9 s

/-- DUP10 (R215). -/
def execDup10 (s : State) : Result := dup 10 s

/-- DUP11 (R216). -/
def execDup11 (s : State) : Result := dup 11 s

/-- DUP12 (R217). -/
def execDup12 (s : State) : Result := dup 12 s

/-- DUP13 (R218). -/
def execDup13 (s : State) : Result := dup 13 s

/-- DUP14 (R219). -/
def execDup14 (s : State) : Result := dup 14 s

/-- DUP15 (R220). -/
def execDup15 (s : State) : Result := dup 15 s

/-- DUP16 (R221). -/
def execDup16 (s : State) : Result := dup 16 s

/-! ### SWAP1 to SWAP16: R222 with n = 1 to 16 -/

/-- SWAP1 (R223). -/
def execSwap1 (s : State) : Result := swap 1 s

/-- SWAP2 (R224). -/
def execSwap2 (s : State) : Result := swap 2 s

/-- SWAP3 (R225). -/
def execSwap3 (s : State) : Result := swap 3 s

/-- SWAP4 (R226). -/
def execSwap4 (s : State) : Result := swap 4 s

/-- SWAP5 (R227). -/
def execSwap5 (s : State) : Result := swap 5 s

/-- SWAP6 (R228). -/
def execSwap6 (s : State) : Result := swap 6 s

/-- SWAP7 (R229). -/
def execSwap7 (s : State) : Result := swap 7 s

/-- SWAP8 (R230). -/
def execSwap8 (s : State) : Result := swap 8 s

/-- SWAP9 (R231). -/
def execSwap9 (s : State) : Result := swap 9 s

/-- SWAP10 (R232). -/
def execSwap10 (s : State) : Result := swap 10 s

/-- SWAP11 (R233). -/
def execSwap11 (s : State) : Result := swap 11 s

/-- SWAP12 (R234). -/
def execSwap12 (s : State) : Result := swap 12 s

/-- SWAP13 (R235). -/
def execSwap13 (s : State) : Result := swap 13 s

/-- SWAP14 (R236). -/
def execSwap14 (s : State) : Result := swap 14 s

/-- SWAP15 (R237). -/
def execSwap15 (s : State) : Result := swap 15 s

/-- SWAP16 (R238). -/
def execSwap16 (s : State) : Result := swap 16 s

end Sys2Proof.Machine
end

