-- ==== Sys2Proof/Machine/Unlisted.lean ====
section
/-! DEFINITION. The 142 byte values that are no admitted instruction: class U (R87) and class X (R86). Each has a
definition of its own over the two shared operations of Ops.lean. -/

namespace Sys2Proof.Machine

/-! ### Class U: "Unassigned bytes ... produce an immediate Invalid halt" (R87, R298) -/

/-- Byte 0x0C, unassigned (R87). -/
def execUnassigned0C (s : State) : Result := invalidOpcode s

/-- Byte 0x0D, unassigned (R87). -/
def execUnassigned0D (s : State) : Result := invalidOpcode s

/-- Byte 0x0E, unassigned (R87). -/
def execUnassigned0E (s : State) : Result := invalidOpcode s

/-- Byte 0x0F, unassigned (R87). -/
def execUnassigned0F (s : State) : Result := invalidOpcode s

/-- Byte 0x1E, unassigned (R87). -/
def execUnassigned1E (s : State) : Result := invalidOpcode s

/-- Byte 0x1F, unassigned (R87). -/
def execUnassigned1F (s : State) : Result := invalidOpcode s

/-- Byte 0x21, unassigned (R87). -/
def execUnassigned21 (s : State) : Result := invalidOpcode s

/-- Byte 0x22, unassigned (R87). -/
def execUnassigned22 (s : State) : Result := invalidOpcode s

/-- Byte 0x23, unassigned (R87). -/
def execUnassigned23 (s : State) : Result := invalidOpcode s

/-- Byte 0x24, unassigned (R87). -/
def execUnassigned24 (s : State) : Result := invalidOpcode s

/-- Byte 0x25, unassigned (R87). -/
def execUnassigned25 (s : State) : Result := invalidOpcode s

/-- Byte 0x26, unassigned (R87). -/
def execUnassigned26 (s : State) : Result := invalidOpcode s

/-- Byte 0x27, unassigned (R87). -/
def execUnassigned27 (s : State) : Result := invalidOpcode s

/-- Byte 0x28, unassigned (R87). -/
def execUnassigned28 (s : State) : Result := invalidOpcode s

/-- Byte 0x29, unassigned (R87). -/
def execUnassigned29 (s : State) : Result := invalidOpcode s

/-- Byte 0x2A, unassigned (R87). -/
def execUnassigned2A (s : State) : Result := invalidOpcode s

/-- Byte 0x2B, unassigned (R87). -/
def execUnassigned2B (s : State) : Result := invalidOpcode s

/-- Byte 0x2C, unassigned (R87). -/
def execUnassigned2C (s : State) : Result := invalidOpcode s

/-- Byte 0x2D, unassigned (R87). -/
def execUnassigned2D (s : State) : Result := invalidOpcode s

/-- Byte 0x2E, unassigned (R87). -/
def execUnassigned2E (s : State) : Result := invalidOpcode s

/-- Byte 0x2F, unassigned (R87). -/
def execUnassigned2F (s : State) : Result := invalidOpcode s

/-- Byte 0x4B, unassigned (R87). -/
def execUnassigned4B (s : State) : Result := invalidOpcode s

/-- Byte 0x4C, unassigned (R87). -/
def execUnassigned4C (s : State) : Result := invalidOpcode s

/-- Byte 0x4D, unassigned (R87). -/
def execUnassigned4D (s : State) : Result := invalidOpcode s

/-- Byte 0x4E, unassigned (R87). -/
def execUnassigned4E (s : State) : Result := invalidOpcode s

/-- Byte 0x4F, unassigned (R87). -/
def execUnassigned4F (s : State) : Result := invalidOpcode s

/-- Byte 0xA5, unassigned (R87). -/
def execUnassignedA5 (s : State) : Result := invalidOpcode s

/-- Byte 0xA6, unassigned (R87). -/
def execUnassignedA6 (s : State) : Result := invalidOpcode s

/-- Byte 0xA7, unassigned (R87). -/
def execUnassignedA7 (s : State) : Result := invalidOpcode s

/-- Byte 0xA8, unassigned (R87). -/
def execUnassignedA8 (s : State) : Result := invalidOpcode s

/-- Byte 0xA9, unassigned (R87). -/
def execUnassignedA9 (s : State) : Result := invalidOpcode s

/-- Byte 0xAA, unassigned (R87). -/
def execUnassignedAA (s : State) : Result := invalidOpcode s

/-- Byte 0xAB, unassigned (R87). -/
def execUnassignedAB (s : State) : Result := invalidOpcode s

/-- Byte 0xAC, unassigned (R87). -/
def execUnassignedAC (s : State) : Result := invalidOpcode s

/-- Byte 0xAD, unassigned (R87). -/
def execUnassignedAD (s : State) : Result := invalidOpcode s

/-- Byte 0xAE, unassigned (R87). -/
def execUnassignedAE (s : State) : Result := invalidOpcode s

/-- Byte 0xAF, unassigned (R87). -/
def execUnassignedAF (s : State) : Result := invalidOpcode s

/-- Byte 0xB0, unassigned (R87). -/
def execUnassignedB0 (s : State) : Result := invalidOpcode s

/-- Byte 0xB1, unassigned (R87). -/
def execUnassignedB1 (s : State) : Result := invalidOpcode s

/-- Byte 0xB2, unassigned (R87). -/
def execUnassignedB2 (s : State) : Result := invalidOpcode s

/-- Byte 0xB3, unassigned (R87). -/
def execUnassignedB3 (s : State) : Result := invalidOpcode s

/-- Byte 0xB4, unassigned (R87). -/
def execUnassignedB4 (s : State) : Result := invalidOpcode s

/-- Byte 0xB5, unassigned (R87). -/
def execUnassignedB5 (s : State) : Result := invalidOpcode s

/-- Byte 0xB6, unassigned (R87). -/
def execUnassignedB6 (s : State) : Result := invalidOpcode s

/-- Byte 0xB7, unassigned (R87). -/
def execUnassignedB7 (s : State) : Result := invalidOpcode s

/-- Byte 0xB8, unassigned (R87). -/
def execUnassignedB8 (s : State) : Result := invalidOpcode s

/-- Byte 0xB9, unassigned (R87). -/
def execUnassignedB9 (s : State) : Result := invalidOpcode s

/-- Byte 0xBA, unassigned (R87). -/
def execUnassignedBA (s : State) : Result := invalidOpcode s

/-- Byte 0xBB, unassigned (R87). -/
def execUnassignedBB (s : State) : Result := invalidOpcode s

/-- Byte 0xBC, unassigned (R87). -/
def execUnassignedBC (s : State) : Result := invalidOpcode s

/-- Byte 0xBD, unassigned (R87). -/
def execUnassignedBD (s : State) : Result := invalidOpcode s

/-- Byte 0xBE, unassigned (R87). -/
def execUnassignedBE (s : State) : Result := invalidOpcode s

/-- Byte 0xBF, unassigned (R87). -/
def execUnassignedBF (s : State) : Result := invalidOpcode s

/-- Byte 0xC0, unassigned (R87). -/
def execUnassignedC0 (s : State) : Result := invalidOpcode s

/-- Byte 0xC1, unassigned (R87). -/
def execUnassignedC1 (s : State) : Result := invalidOpcode s

/-- Byte 0xC2, unassigned (R87). -/
def execUnassignedC2 (s : State) : Result := invalidOpcode s

/-- Byte 0xC3, unassigned (R87). -/
def execUnassignedC3 (s : State) : Result := invalidOpcode s

/-- Byte 0xC4, unassigned (R87). -/
def execUnassignedC4 (s : State) : Result := invalidOpcode s

/-- Byte 0xC5, unassigned (R87). -/
def execUnassignedC5 (s : State) : Result := invalidOpcode s

/-- Byte 0xC6, unassigned (R87). -/
def execUnassignedC6 (s : State) : Result := invalidOpcode s

/-- Byte 0xC7, unassigned (R87). -/
def execUnassignedC7 (s : State) : Result := invalidOpcode s

/-- Byte 0xC8, unassigned (R87). -/
def execUnassignedC8 (s : State) : Result := invalidOpcode s

/-- Byte 0xC9, unassigned (R87). -/
def execUnassignedC9 (s : State) : Result := invalidOpcode s

/-- Byte 0xCA, unassigned (R87). -/
def execUnassignedCA (s : State) : Result := invalidOpcode s

/-- Byte 0xCB, unassigned (R87). -/
def execUnassignedCB (s : State) : Result := invalidOpcode s

/-- Byte 0xCC, unassigned (R87). -/
def execUnassignedCC (s : State) : Result := invalidOpcode s

/-- Byte 0xCD, unassigned (R87). -/
def execUnassignedCD (s : State) : Result := invalidOpcode s

/-- Byte 0xCE, unassigned (R87). -/
def execUnassignedCE (s : State) : Result := invalidOpcode s

/-- Byte 0xCF, unassigned (R87). -/
def execUnassignedCF (s : State) : Result := invalidOpcode s

/-- Byte 0xD0, unassigned (R87). -/
def execUnassignedD0 (s : State) : Result := invalidOpcode s

/-- Byte 0xD1, unassigned (R87). -/
def execUnassignedD1 (s : State) : Result := invalidOpcode s

/-- Byte 0xD2, unassigned (R87). -/
def execUnassignedD2 (s : State) : Result := invalidOpcode s

/-- Byte 0xD3, unassigned (R87). -/
def execUnassignedD3 (s : State) : Result := invalidOpcode s

/-- Byte 0xD4, unassigned (R87). -/
def execUnassignedD4 (s : State) : Result := invalidOpcode s

/-- Byte 0xD5, unassigned (R87). -/
def execUnassignedD5 (s : State) : Result := invalidOpcode s

/-- Byte 0xD6, unassigned (R87). -/
def execUnassignedD6 (s : State) : Result := invalidOpcode s

/-- Byte 0xD7, unassigned (R87). -/
def execUnassignedD7 (s : State) : Result := invalidOpcode s

/-- Byte 0xD8, unassigned (R87). -/
def execUnassignedD8 (s : State) : Result := invalidOpcode s

/-- Byte 0xD9, unassigned (R87). -/
def execUnassignedD9 (s : State) : Result := invalidOpcode s

/-- Byte 0xDA, unassigned (R87). -/
def execUnassignedDA (s : State) : Result := invalidOpcode s

/-- Byte 0xDB, unassigned (R87). -/
def execUnassignedDB (s : State) : Result := invalidOpcode s

/-- Byte 0xDC, unassigned (R87). -/
def execUnassignedDC (s : State) : Result := invalidOpcode s

/-- Byte 0xDD, unassigned (R87). -/
def execUnassignedDD (s : State) : Result := invalidOpcode s

/-- Byte 0xDE, unassigned (R87). -/
def execUnassignedDE (s : State) : Result := invalidOpcode s

/-- Byte 0xDF, unassigned (R87). -/
def execUnassignedDF (s : State) : Result := invalidOpcode s

/-- Byte 0xE0, unassigned (R87). -/
def execUnassignedE0 (s : State) : Result := invalidOpcode s

/-- Byte 0xE1, unassigned (R87). -/
def execUnassignedE1 (s : State) : Result := invalidOpcode s

/-- Byte 0xE2, unassigned (R87). -/
def execUnassignedE2 (s : State) : Result := invalidOpcode s

/-- Byte 0xE3, unassigned (R87). -/
def execUnassignedE3 (s : State) : Result := invalidOpcode s

/-- Byte 0xE4, unassigned (R87). -/
def execUnassignedE4 (s : State) : Result := invalidOpcode s

/-- Byte 0xE5, unassigned (R87). -/
def execUnassignedE5 (s : State) : Result := invalidOpcode s

/-- Byte 0xE6, unassigned (R87). -/
def execUnassignedE6 (s : State) : Result := invalidOpcode s

/-- Byte 0xE7, unassigned (R87). -/
def execUnassignedE7 (s : State) : Result := invalidOpcode s

/-- Byte 0xE8, unassigned (R87). -/
def execUnassignedE8 (s : State) : Result := invalidOpcode s

/-- Byte 0xE9, unassigned (R87). -/
def execUnassignedE9 (s : State) : Result := invalidOpcode s

/-- Byte 0xEA, unassigned (R87). -/
def execUnassignedEA (s : State) : Result := invalidOpcode s

/-- Byte 0xEB, unassigned (R87). -/
def execUnassignedEB (s : State) : Result := invalidOpcode s

/-- Byte 0xEC, unassigned (R87). -/
def execUnassignedEC (s : State) : Result := invalidOpcode s

/-- Byte 0xED, unassigned (R87). -/
def execUnassignedED (s : State) : Result := invalidOpcode s

/-- Byte 0xEE, unassigned (R87). -/
def execUnassignedEE (s : State) : Result := invalidOpcode s

/-- Byte 0xEF, unassigned (R87). -/
def execUnassignedEF (s : State) : Result := invalidOpcode s

/-- Byte 0xF6, unassigned (R87). -/
def execUnassignedF6 (s : State) : Result := invalidOpcode s

/-- Byte 0xF7, unassigned (R87). -/
def execUnassignedF7 (s : State) : Result := invalidOpcode s

/-- Byte 0xF8, unassigned (R87). -/
def execUnassignedF8 (s : State) : Result := invalidOpcode s

/-- Byte 0xF9, unassigned (R87). -/
def execUnassignedF9 (s : State) : Result := invalidOpcode s

/-- Byte 0xFB, unassigned (R87). -/
def execUnassignedFB (s : State) : Result := invalidOpcode s

/-- Byte 0xFC, unassigned (R87). -/
def execUnassignedFC (s : State) : Result := invalidOpcode s

/-! ### Class X: assigned in the EVM, not named by the source (R86, R313) -/

/-- ADDMOD, byte 0x08, class X (R86). -/
def execAddmod (s : State) : Result := unlisted s

/-- MULMOD, byte 0x09, class X (R86). -/
def execMulmod (s : State) : Result := unlisted s

/-- BYTE, byte 0x1A, class X (R86). -/
def execByte (s : State) : Result := unlisted s

/-- CALLDATACOPY, byte 0x37, class X (R86). -/
def execCalldatacopy (s : State) : Result := unlisted s

/-- CODESIZE, byte 0x38, class X (R86). -/
def execCodesize (s : State) : Result := unlisted s

/-- CODECOPY, byte 0x39, class X (R86). -/
def execCodecopy (s : State) : Result := unlisted s

/-- GASPRICE, byte 0x3A, class X (R86). -/
def execGasprice (s : State) : Result := unlisted s

/-- EXTCODECOPY, byte 0x3C, class X (R86). -/
def execExtcodecopy (s : State) : Result := unlisted s

/-- RETURNDATACOPY, byte 0x3E, class X (R86). -/
def execReturndatacopy (s : State) : Result := unlisted s

/-- EXTCODEHASH, byte 0x3F, class X (R86). -/
def execExtcodehash (s : State) : Result := unlisted s

/-- BLOCKHASH, byte 0x40, class X (R86). -/
def execBlockhash (s : State) : Result := unlisted s

/-- PREVRANDAO, byte 0x44, class X (R86). -/
def execPrevrandao (s : State) : Result := unlisted s

/-- SELFBALANCE, byte 0x47, class X (R86). -/
def execSelfbalance (s : State) : Result := unlisted s

/-- BASEFEE, byte 0x48, class X (R86). -/
def execBasefee (s : State) : Result := unlisted s

/-- BLOBHASH, byte 0x49, class X (R86). -/
def execBlobhash (s : State) : Result := unlisted s

/-- BLOBBASEFEE, byte 0x4A, class X (R86). -/
def execBlobbasefee (s : State) : Result := unlisted s

/-- SLOAD, byte 0x54, class X (R86). -/
def execSload (s : State) : Result := unlisted s

/-- SSTORE, byte 0x55, class X (R86). -/
def execSstore (s : State) : Result := unlisted s

/-- GAS, byte 0x5A, class X (R86). -/
def execGas (s : State) : Result := unlisted s

/-- TLOAD, byte 0x5C, class X (R86). -/
def execTload (s : State) : Result := unlisted s

/-- TSTORE, byte 0x5D, class X (R86). -/
def execTstore (s : State) : Result := unlisted s

/-- MCOPY, byte 0x5E, class X (R86). -/
def execMcopy (s : State) : Result := unlisted s

/-- PUSH0, byte 0x5F, class X (R86). -/
def execPush0 (s : State) : Result := unlisted s

/-- LOG0, byte 0xA0, class X (R86). -/
def execLog0 (s : State) : Result := unlisted s

/-- LOG1, byte 0xA1, class X (R86). -/
def execLog1 (s : State) : Result := unlisted s

/-- LOG2, byte 0xA2, class X (R86). -/
def execLog2 (s : State) : Result := unlisted s

/-- LOG3, byte 0xA3, class X (R86). -/
def execLog3 (s : State) : Result := unlisted s

/-- LOG4, byte 0xA4, class X (R86). -/
def execLog4 (s : State) : Result := unlisted s

/-- CREATE, byte 0xF0, class X (R86). -/
def execCreate (s : State) : Result := unlisted s

/-- CALL, byte 0xF1, class X (R86). -/
def execCall (s : State) : Result := unlisted s

/-- CALLCODE, byte 0xF2, class X (R86). -/
def execCallcode (s : State) : Result := unlisted s

/-- DELEGATECALL, byte 0xF4, class X (R86). -/
def execDelegatecall (s : State) : Result := unlisted s

/-- CREATE2, byte 0xF5, class X (R86). -/
def execCreate2 (s : State) : Result := unlisted s

/-- STATICCALL, byte 0xFA, class X (R86). -/
def execStaticcall (s : State) : Result := unlisted s

/-- SELFDESTRUCT, byte 0xFF, class X (R86). -/
def execSelfdestruct (s : State) : Result := unlisted s

end Sys2Proof.Machine
end

