-- ==== Sys2Proof/Machine/Dispatch.lean ====
section
/-! DEFINITION. The dispatch multiplexer (R251): one arm per instruction, each one call of its meaning. -/

namespace Sys2Proof.Machine

def exec (i : Instr) (s : State) : Host.Outcome State Fault Refusal :=
  match i with
  | .stop => Sys2Proof.Machine.execStop s
  | .add => Sys2Proof.Machine.execAdd s
  | .mul => Sys2Proof.Machine.execMul s
  | .sub => Sys2Proof.Machine.execSub s
  | .div => Sys2Proof.Machine.execDiv s
  | .sdiv => Sys2Proof.Machine.execSdiv s
  | .mod => Sys2Proof.Machine.execMod s
  | .smod => Sys2Proof.Machine.execSmod s
  | .addmod => Sys2Proof.Machine.execAddmod s
  | .mulmod => Sys2Proof.Machine.execMulmod s
  | .exp => Sys2Proof.Machine.execExp s
  | .signextend => Sys2Proof.Machine.execSignextend s
  | .unassigned0C => Sys2Proof.Machine.execUnassigned0C s
  | .unassigned0D => Sys2Proof.Machine.execUnassigned0D s
  | .unassigned0E => Sys2Proof.Machine.execUnassigned0E s
  | .unassigned0F => Sys2Proof.Machine.execUnassigned0F s
  | .lt => Sys2Proof.Machine.execLt s
  | .gt => Sys2Proof.Machine.execGt s
  | .slt => Sys2Proof.Machine.execSlt s
  | .sgt => Sys2Proof.Machine.execSgt s
  | .eq => Sys2Proof.Machine.execEq s
  | .iszero => Sys2Proof.Machine.execIszero s
  | .and => Sys2Proof.Machine.execAnd s
  | .or => Sys2Proof.Machine.execOr s
  | .xor => Sys2Proof.Machine.execXor s
  | .not => Sys2Proof.Machine.execNot s
  | .byte => Sys2Proof.Machine.execByte s
  | .shl => Sys2Proof.Machine.execShl s
  | .shr => Sys2Proof.Machine.execShr s
  | .sar => Sys2Proof.Machine.execSar s
  | .unassigned1E => Sys2Proof.Machine.execUnassigned1E s
  | .unassigned1F => Sys2Proof.Machine.execUnassigned1F s
  | .sha3 => Sys2Proof.Machine.execSha3 s
  | .unassigned21 => Sys2Proof.Machine.execUnassigned21 s
  | .unassigned22 => Sys2Proof.Machine.execUnassigned22 s
  | .unassigned23 => Sys2Proof.Machine.execUnassigned23 s
  | .unassigned24 => Sys2Proof.Machine.execUnassigned24 s
  | .unassigned25 => Sys2Proof.Machine.execUnassigned25 s
  | .unassigned26 => Sys2Proof.Machine.execUnassigned26 s
  | .unassigned27 => Sys2Proof.Machine.execUnassigned27 s
  | .unassigned28 => Sys2Proof.Machine.execUnassigned28 s
  | .unassigned29 => Sys2Proof.Machine.execUnassigned29 s
  | .unassigned2A => Sys2Proof.Machine.execUnassigned2A s
  | .unassigned2B => Sys2Proof.Machine.execUnassigned2B s
  | .unassigned2C => Sys2Proof.Machine.execUnassigned2C s
  | .unassigned2D => Sys2Proof.Machine.execUnassigned2D s
  | .unassigned2E => Sys2Proof.Machine.execUnassigned2E s
  | .unassigned2F => Sys2Proof.Machine.execUnassigned2F s
  | .address => Sys2Proof.Machine.execAddress s
  | .balance => Sys2Proof.Machine.execBalance s
  | .origin => Sys2Proof.Machine.execOrigin s
  | .caller => Sys2Proof.Machine.execCaller s
  | .callvalue => Sys2Proof.Machine.execCallvalue s
  | .calldataload => Sys2Proof.Machine.execCalldataload s
  | .calldatasize => Sys2Proof.Machine.execCalldatasize s
  | .calldatacopy => Sys2Proof.Machine.execCalldatacopy s
  | .codesize => Sys2Proof.Machine.execCodesize s
  | .codecopy => Sys2Proof.Machine.execCodecopy s
  | .gasprice => Sys2Proof.Machine.execGasprice s
  | .extcodesize => Sys2Proof.Machine.execExtcodesize s
  | .extcodecopy => Sys2Proof.Machine.execExtcodecopy s
  | .returndatasize => Sys2Proof.Machine.execReturndatasize s
  | .returndatacopy => Sys2Proof.Machine.execReturndatacopy s
  | .extcodehash => Sys2Proof.Machine.execExtcodehash s
  | .blockhash => Sys2Proof.Machine.execBlockhash s
  | .coinbase => Sys2Proof.Machine.execCoinbase s
  | .timestamp => Sys2Proof.Machine.execTimestamp s
  | .number => Sys2Proof.Machine.execNumber s
  | .prevrandao => Sys2Proof.Machine.execPrevrandao s
  | .gaslimit => Sys2Proof.Machine.execGaslimit s
  | .chainid => Sys2Proof.Machine.execChainid s
  | .selfbalance => Sys2Proof.Machine.execSelfbalance s
  | .basefee => Sys2Proof.Machine.execBasefee s
  | .blobhash => Sys2Proof.Machine.execBlobhash s
  | .blobbasefee => Sys2Proof.Machine.execBlobbasefee s
  | .unassigned4B => Sys2Proof.Machine.execUnassigned4B s
  | .unassigned4C => Sys2Proof.Machine.execUnassigned4C s
  | .unassigned4D => Sys2Proof.Machine.execUnassigned4D s
  | .unassigned4E => Sys2Proof.Machine.execUnassigned4E s
  | .unassigned4F => Sys2Proof.Machine.execUnassigned4F s
  | .pop => Sys2Proof.Machine.execPop s
  | .mload => Sys2Proof.Machine.execMload s
  | .mstore => Sys2Proof.Machine.execMstore s
  | .mstore8 => Sys2Proof.Machine.execMstore8 s
  | .sload => Sys2Proof.Machine.execSload s
  | .sstore => Sys2Proof.Machine.execSstore s
  | .jump => Sys2Proof.Machine.execJump s
  | .jumpi => Sys2Proof.Machine.execJumpi s
  | .pc => Sys2Proof.Machine.execPc s
  | .msize => Sys2Proof.Machine.execMsize s
  | .gas => Sys2Proof.Machine.execGas s
  | .jumpdest => Sys2Proof.Machine.execJumpdest s
  | .tload => Sys2Proof.Machine.execTload s
  | .tstore => Sys2Proof.Machine.execTstore s
  | .mcopy => Sys2Proof.Machine.execMcopy s
  | .push0 => Sys2Proof.Machine.execPush0 s
  | .push1 v => Sys2Proof.Machine.execPush1 v s
  | .push2 v => Sys2Proof.Machine.execPush2 v s
  | .push3 v => Sys2Proof.Machine.execPush3 v s
  | .push4 v => Sys2Proof.Machine.execPush4 v s
  | .push5 v => Sys2Proof.Machine.execPush5 v s
  | .push6 v => Sys2Proof.Machine.execPush6 v s
  | .push7 v => Sys2Proof.Machine.execPush7 v s
  | .push8 v => Sys2Proof.Machine.execPush8 v s
  | .push9 v => Sys2Proof.Machine.execPush9 v s
  | .push10 v => Sys2Proof.Machine.execPush10 v s
  | .push11 v => Sys2Proof.Machine.execPush11 v s
  | .push12 v => Sys2Proof.Machine.execPush12 v s
  | .push13 v => Sys2Proof.Machine.execPush13 v s
  | .push14 v => Sys2Proof.Machine.execPush14 v s
  | .push15 v => Sys2Proof.Machine.execPush15 v s
  | .push16 v => Sys2Proof.Machine.execPush16 v s
  | .push17 v => Sys2Proof.Machine.execPush17 v s
  | .push18 v => Sys2Proof.Machine.execPush18 v s
  | .push19 v => Sys2Proof.Machine.execPush19 v s
  | .push20 v => Sys2Proof.Machine.execPush20 v s
  | .push21 v => Sys2Proof.Machine.execPush21 v s
  | .push22 v => Sys2Proof.Machine.execPush22 v s
  | .push23 v => Sys2Proof.Machine.execPush23 v s
  | .push24 v => Sys2Proof.Machine.execPush24 v s
  | .push25 v => Sys2Proof.Machine.execPush25 v s
  | .push26 v => Sys2Proof.Machine.execPush26 v s
  | .push27 v => Sys2Proof.Machine.execPush27 v s
  | .push28 v => Sys2Proof.Machine.execPush28 v s
  | .push29 v => Sys2Proof.Machine.execPush29 v s
  | .push30 v => Sys2Proof.Machine.execPush30 v s
  | .push31 v => Sys2Proof.Machine.execPush31 v s
  | .push32 v => Sys2Proof.Machine.execPush32 v s
  | .dup1 => Sys2Proof.Machine.execDup1 s
  | .dup2 => Sys2Proof.Machine.execDup2 s
  | .dup3 => Sys2Proof.Machine.execDup3 s
  | .dup4 => Sys2Proof.Machine.execDup4 s
  | .dup5 => Sys2Proof.Machine.execDup5 s
  | .dup6 => Sys2Proof.Machine.execDup6 s
  | .dup7 => Sys2Proof.Machine.execDup7 s
  | .dup8 => Sys2Proof.Machine.execDup8 s
  | .dup9 => Sys2Proof.Machine.execDup9 s
  | .dup10 => Sys2Proof.Machine.execDup10 s
  | .dup11 => Sys2Proof.Machine.execDup11 s
  | .dup12 => Sys2Proof.Machine.execDup12 s
  | .dup13 => Sys2Proof.Machine.execDup13 s
  | .dup14 => Sys2Proof.Machine.execDup14 s
  | .dup15 => Sys2Proof.Machine.execDup15 s
  | .dup16 => Sys2Proof.Machine.execDup16 s
  | .swap1 => Sys2Proof.Machine.execSwap1 s
  | .swap2 => Sys2Proof.Machine.execSwap2 s
  | .swap3 => Sys2Proof.Machine.execSwap3 s
  | .swap4 => Sys2Proof.Machine.execSwap4 s
  | .swap5 => Sys2Proof.Machine.execSwap5 s
  | .swap6 => Sys2Proof.Machine.execSwap6 s
  | .swap7 => Sys2Proof.Machine.execSwap7 s
  | .swap8 => Sys2Proof.Machine.execSwap8 s
  | .swap9 => Sys2Proof.Machine.execSwap9 s
  | .swap10 => Sys2Proof.Machine.execSwap10 s
  | .swap11 => Sys2Proof.Machine.execSwap11 s
  | .swap12 => Sys2Proof.Machine.execSwap12 s
  | .swap13 => Sys2Proof.Machine.execSwap13 s
  | .swap14 => Sys2Proof.Machine.execSwap14 s
  | .swap15 => Sys2Proof.Machine.execSwap15 s
  | .swap16 => Sys2Proof.Machine.execSwap16 s
  | .log0 => Sys2Proof.Machine.execLog0 s
  | .log1 => Sys2Proof.Machine.execLog1 s
  | .log2 => Sys2Proof.Machine.execLog2 s
  | .log3 => Sys2Proof.Machine.execLog3 s
  | .log4 => Sys2Proof.Machine.execLog4 s
  | .unassignedA5 => Sys2Proof.Machine.execUnassignedA5 s
  | .unassignedA6 => Sys2Proof.Machine.execUnassignedA6 s
  | .unassignedA7 => Sys2Proof.Machine.execUnassignedA7 s
  | .unassignedA8 => Sys2Proof.Machine.execUnassignedA8 s
  | .unassignedA9 => Sys2Proof.Machine.execUnassignedA9 s
  | .unassignedAA => Sys2Proof.Machine.execUnassignedAA s
  | .unassignedAB => Sys2Proof.Machine.execUnassignedAB s
  | .unassignedAC => Sys2Proof.Machine.execUnassignedAC s
  | .unassignedAD => Sys2Proof.Machine.execUnassignedAD s
  | .unassignedAE => Sys2Proof.Machine.execUnassignedAE s
  | .unassignedAF => Sys2Proof.Machine.execUnassignedAF s
  | .unassignedB0 => Sys2Proof.Machine.execUnassignedB0 s
  | .unassignedB1 => Sys2Proof.Machine.execUnassignedB1 s
  | .unassignedB2 => Sys2Proof.Machine.execUnassignedB2 s
  | .unassignedB3 => Sys2Proof.Machine.execUnassignedB3 s
  | .unassignedB4 => Sys2Proof.Machine.execUnassignedB4 s
  | .unassignedB5 => Sys2Proof.Machine.execUnassignedB5 s
  | .unassignedB6 => Sys2Proof.Machine.execUnassignedB6 s
  | .unassignedB7 => Sys2Proof.Machine.execUnassignedB7 s
  | .unassignedB8 => Sys2Proof.Machine.execUnassignedB8 s
  | .unassignedB9 => Sys2Proof.Machine.execUnassignedB9 s
  | .unassignedBA => Sys2Proof.Machine.execUnassignedBA s
  | .unassignedBB => Sys2Proof.Machine.execUnassignedBB s
  | .unassignedBC => Sys2Proof.Machine.execUnassignedBC s
  | .unassignedBD => Sys2Proof.Machine.execUnassignedBD s
  | .unassignedBE => Sys2Proof.Machine.execUnassignedBE s
  | .unassignedBF => Sys2Proof.Machine.execUnassignedBF s
  | .unassignedC0 => Sys2Proof.Machine.execUnassignedC0 s
  | .unassignedC1 => Sys2Proof.Machine.execUnassignedC1 s
  | .unassignedC2 => Sys2Proof.Machine.execUnassignedC2 s
  | .unassignedC3 => Sys2Proof.Machine.execUnassignedC3 s
  | .unassignedC4 => Sys2Proof.Machine.execUnassignedC4 s
  | .unassignedC5 => Sys2Proof.Machine.execUnassignedC5 s
  | .unassignedC6 => Sys2Proof.Machine.execUnassignedC6 s
  | .unassignedC7 => Sys2Proof.Machine.execUnassignedC7 s
  | .unassignedC8 => Sys2Proof.Machine.execUnassignedC8 s
  | .unassignedC9 => Sys2Proof.Machine.execUnassignedC9 s
  | .unassignedCA => Sys2Proof.Machine.execUnassignedCA s
  | .unassignedCB => Sys2Proof.Machine.execUnassignedCB s
  | .unassignedCC => Sys2Proof.Machine.execUnassignedCC s
  | .unassignedCD => Sys2Proof.Machine.execUnassignedCD s
  | .unassignedCE => Sys2Proof.Machine.execUnassignedCE s
  | .unassignedCF => Sys2Proof.Machine.execUnassignedCF s
  | .unassignedD0 => Sys2Proof.Machine.execUnassignedD0 s
  | .unassignedD1 => Sys2Proof.Machine.execUnassignedD1 s
  | .unassignedD2 => Sys2Proof.Machine.execUnassignedD2 s
  | .unassignedD3 => Sys2Proof.Machine.execUnassignedD3 s
  | .unassignedD4 => Sys2Proof.Machine.execUnassignedD4 s
  | .unassignedD5 => Sys2Proof.Machine.execUnassignedD5 s
  | .unassignedD6 => Sys2Proof.Machine.execUnassignedD6 s
  | .unassignedD7 => Sys2Proof.Machine.execUnassignedD7 s
  | .unassignedD8 => Sys2Proof.Machine.execUnassignedD8 s
  | .unassignedD9 => Sys2Proof.Machine.execUnassignedD9 s
  | .unassignedDA => Sys2Proof.Machine.execUnassignedDA s
  | .unassignedDB => Sys2Proof.Machine.execUnassignedDB s
  | .unassignedDC => Sys2Proof.Machine.execUnassignedDC s
  | .unassignedDD => Sys2Proof.Machine.execUnassignedDD s
  | .unassignedDE => Sys2Proof.Machine.execUnassignedDE s
  | .unassignedDF => Sys2Proof.Machine.execUnassignedDF s
  | .unassignedE0 => Sys2Proof.Machine.execUnassignedE0 s
  | .unassignedE1 => Sys2Proof.Machine.execUnassignedE1 s
  | .unassignedE2 => Sys2Proof.Machine.execUnassignedE2 s
  | .unassignedE3 => Sys2Proof.Machine.execUnassignedE3 s
  | .unassignedE4 => Sys2Proof.Machine.execUnassignedE4 s
  | .unassignedE5 => Sys2Proof.Machine.execUnassignedE5 s
  | .unassignedE6 => Sys2Proof.Machine.execUnassignedE6 s
  | .unassignedE7 => Sys2Proof.Machine.execUnassignedE7 s
  | .unassignedE8 => Sys2Proof.Machine.execUnassignedE8 s
  | .unassignedE9 => Sys2Proof.Machine.execUnassignedE9 s
  | .unassignedEA => Sys2Proof.Machine.execUnassignedEA s
  | .unassignedEB => Sys2Proof.Machine.execUnassignedEB s
  | .unassignedEC => Sys2Proof.Machine.execUnassignedEC s
  | .unassignedED => Sys2Proof.Machine.execUnassignedED s
  | .unassignedEE => Sys2Proof.Machine.execUnassignedEE s
  | .unassignedEF => Sys2Proof.Machine.execUnassignedEF s
  | .create => Sys2Proof.Machine.execCreate s
  | .call => Sys2Proof.Machine.execCall s
  | .callcode => Sys2Proof.Machine.execCallcode s
  | .ret => Sys2Proof.Machine.execRet s
  | .delegatecall => Sys2Proof.Machine.execDelegatecall s
  | .create2 => Sys2Proof.Machine.execCreate2 s
  | .unassignedF6 => Sys2Proof.Machine.execUnassignedF6 s
  | .unassignedF7 => Sys2Proof.Machine.execUnassignedF7 s
  | .unassignedF8 => Sys2Proof.Machine.execUnassignedF8 s
  | .unassignedF9 => Sys2Proof.Machine.execUnassignedF9 s
  | .staticcall => Sys2Proof.Machine.execStaticcall s
  | .unassignedFB => Sys2Proof.Machine.execUnassignedFB s
  | .unassignedFC => Sys2Proof.Machine.execUnassignedFC s
  | .revert => Sys2Proof.Machine.execRevert s
  | .invalid => Sys2Proof.Machine.execInvalid s
  | .selfdestruct => Sys2Proof.Machine.execSelfdestruct s

end Sys2Proof.Machine
end

