-- ==== Sys2Proof/Machine/Ports.lean ====
section
/-! DEFINITION. The block's abstract ports (R40): creation from the inputs (R320, R322) and the outputs at a halt (R41,
R286). -/

namespace Sys2Proof.Machine

/-- `create(code_in, calldata_in, env_in)` (R320), defined only for inputs and parameters that meet R322's
constraints. The `calldatasize` of `env_in` is not read (R36, D16). -/
def create (p : Params) (codeIn calldataIn : List Byte) (envIn : Env) : Option State :=
  if p.valid ∧ codeIn.length ≤ p.codeMax ∧ calldataIn.length ≤ p.calldataMax then
    some
      { stack := [], pc := 0, mem := Memory.empty
        code := codeIn, calldata := calldataIn
        env := { envIn with calldatasize := calldataIn.length }
        halt := .running, fault := .noFault, rd := []
        jd := jumpdests codeIn, refused := false, params := p }
  else none

/-- The output ports of R40. -/
structure Outputs where
  /-- `stack_out`: bottom to top. -/
  stackOut : List Word
  /-- `mem_out`: all `|M|` bytes (R41, D25). -/
  memOut : List Byte
  rdOut : List Byte
  haltOut : BitVec 3
  faultOut : BitVec 3
  deriving DecidableEq, Repr

/-- The outputs are "defined only when `halt != Running`" (R41). -/
def State.outputs (s : State) : Option Outputs :=
  if s.halt = .running then none
  else some
    { stackOut := s.stack.reverse, memOut := s.mem.bytes 0 s.mem.len, rdOut := s.rd
      haltOut := s.halt.code, faultOut := s.fault.code }

end Sys2Proof.Machine
end

