-- ==== Sys2Proof/Machine/Step.lean ====
section
/-! DEFINITION. One step of the block (R250), and the host's way of placing one instruction where it is fetched. -/

namespace Sys2Proof.Machine

/-- One step (R250): defined only when the block is running and not refused; past the end of the code the implicit
stop (R26); else the instruction at `pc`. -/
def step (s : State) : Host.Outcome State Fault Refusal :=
  if s.refused then .refused .refusalMark
  else if s.halt ≠ .running then .fault (.terminated s.halt)
  else
    match decode s.fetch with
    | .error .endOfCode => implicitStop s
    | .ok i => exec i s

/-- `s` with the instruction of bits `w` in the code at `pc`: what loading a program there does (R320), so the jump
targets are scanned anew (R34); the block is running and not refused, or it would not fetch. Log entry 11. -/
def State.withFetchWord (s : State) (nbits w : Nat) : State :=
  let code := takePadded s.pc s.code ++ wordBytes longestInstr (w % 2 ^ nbits) ++ s.code.drop (s.pc + longestInstr)
  { s with code := code, jd := jumpdests code, halt := .running, refused := false }

end Sys2Proof.Machine
end

