-- ==== Sys2Proof/Safety.lean ====
section
/-! DEFINITION. The terms in which claims are made: the columns of spec/opcode_table.json, the invariant of the block,
the reachable states, and the positions of opcodes in the code. The machine uses none of them. -/

namespace Sys2Proof

/-- The `class` column of the table (R84, R85). -/
inductive OpClass where
  | admitted
  | unassigned
  | unlisted
  deriving DecidableEq, Repr

/-- The `class` column: A, U or X. -/
def Instr.opClass : Instr → OpClass
  | .stop | .add | .mul | .sub | .div | .sdiv | .mod | .smod | .exp | .signextend | .lt | .gt | .slt | .sgt
  | .eq | .iszero | .and | .or | .xor | .not | .shl | .shr | .sar | .sha3 | .address | .balance | .origin
  | .caller | .callvalue | .calldataload | .calldatasize | .extcodesize | .returndatasize | .coinbase
  | .timestamp | .number | .gaslimit | .chainid | .pop | .mload | .mstore | .mstore8 | .jump | .jumpi | .pc
  | .msize | .jumpdest | .push1 _ | .push2 _ | .push3 _ | .push4 _ | .push5 _ | .push6 _ | .push7 _
  | .push8 _ | .push9 _ | .push10 _ | .push11 _ | .push12 _ | .push13 _ | .push14 _ | .push15 _ | .push16 _
  | .push17 _ | .push18 _ | .push19 _ | .push20 _ | .push21 _ | .push22 _ | .push23 _ | .push24 _ | .push25 _
  | .push26 _ | .push27 _ | .push28 _ | .push29 _ | .push30 _ | .push31 _ | .push32 _ | .dup1 | .dup2 | .dup3
  | .dup4 | .dup5 | .dup6 | .dup7 | .dup8 | .dup9 | .dup10 | .dup11 | .dup12 | .dup13 | .dup14 | .dup15
  | .dup16 | .swap1 | .swap2 | .swap3 | .swap4 | .swap5 | .swap6 | .swap7 | .swap8 | .swap9 | .swap10
  | .swap11 | .swap12 | .swap13 | .swap14 | .swap15 | .swap16 | .ret | .revert | .invalid
    => .admitted
  | .unassigned0C | .unassigned0D | .unassigned0E | .unassigned0F | .unassigned1E | .unassigned1F
  | .unassigned21 | .unassigned22 | .unassigned23 | .unassigned24 | .unassigned25 | .unassigned26
  | .unassigned27 | .unassigned28 | .unassigned29 | .unassigned2A | .unassigned2B | .unassigned2C
  | .unassigned2D | .unassigned2E | .unassigned2F | .unassigned4B | .unassigned4C | .unassigned4D
  | .unassigned4E | .unassigned4F | .unassignedA5 | .unassignedA6 | .unassignedA7 | .unassignedA8
  | .unassignedA9 | .unassignedAA | .unassignedAB | .unassignedAC | .unassignedAD | .unassignedAE
  | .unassignedAF | .unassignedB0 | .unassignedB1 | .unassignedB2 | .unassignedB3 | .unassignedB4
  | .unassignedB5 | .unassignedB6 | .unassignedB7 | .unassignedB8 | .unassignedB9 | .unassignedBA
  | .unassignedBB | .unassignedBC | .unassignedBD | .unassignedBE | .unassignedBF | .unassignedC0
  | .unassignedC1 | .unassignedC2 | .unassignedC3 | .unassignedC4 | .unassignedC5 | .unassignedC6
  | .unassignedC7 | .unassignedC8 | .unassignedC9 | .unassignedCA | .unassignedCB | .unassignedCC
  | .unassignedCD | .unassignedCE | .unassignedCF | .unassignedD0 | .unassignedD1 | .unassignedD2
  | .unassignedD3 | .unassignedD4 | .unassignedD5 | .unassignedD6 | .unassignedD7 | .unassignedD8
  | .unassignedD9 | .unassignedDA | .unassignedDB | .unassignedDC | .unassignedDD | .unassignedDE
  | .unassignedDF | .unassignedE0 | .unassignedE1 | .unassignedE2 | .unassignedE3 | .unassignedE4
  | .unassignedE5 | .unassignedE6 | .unassignedE7 | .unassignedE8 | .unassignedE9 | .unassignedEA
  | .unassignedEB | .unassignedEC | .unassignedED | .unassignedEE | .unassignedEF | .unassignedF6
  | .unassignedF7 | .unassignedF8 | .unassignedF9 | .unassignedFB | .unassignedFC
    => .unassigned
  | .addmod | .mulmod | .byte | .calldatacopy | .codesize | .codecopy | .gasprice | .extcodecopy
  | .returndatacopy | .extcodehash | .blockhash | .prevrandao | .selfbalance | .basefee | .blobhash
  | .blobbasefee | .sload | .sstore | .gas | .tload | .tstore | .mcopy | .push0 | .log0 | .log1 | .log2
  | .log3 | .log4 | .create | .call | .callcode | .delegatecall | .create2 | .staticcall | .selfdestruct
    => .unlisted

/-- The `min_depth` column: how many stack entries the instruction needs (R294). -/
def Instr.minDepth : Instr → Nat
  | .stop | .addmod | .mulmod | .unassigned0C | .unassigned0D | .unassigned0E | .unassigned0F | .byte
  | .unassigned1E | .unassigned1F | .unassigned21 | .unassigned22 | .unassigned23 | .unassigned24
  | .unassigned25 | .unassigned26 | .unassigned27 | .unassigned28 | .unassigned29 | .unassigned2A
  | .unassigned2B | .unassigned2C | .unassigned2D | .unassigned2E | .unassigned2F | .address | .origin
  | .caller | .callvalue | .calldatasize | .calldatacopy | .codesize | .codecopy | .gasprice | .extcodecopy
  | .returndatasize | .returndatacopy | .extcodehash | .blockhash | .coinbase | .timestamp | .number
  | .prevrandao | .gaslimit | .chainid | .selfbalance | .basefee | .blobhash | .blobbasefee | .unassigned4B
  | .unassigned4C | .unassigned4D | .unassigned4E | .unassigned4F | .sload | .sstore | .pc | .msize | .gas
  | .jumpdest | .tload | .tstore | .mcopy | .push0 | .push1 _ | .push2 _ | .push3 _ | .push4 _ | .push5 _
  | .push6 _ | .push7 _ | .push8 _ | .push9 _ | .push10 _ | .push11 _ | .push12 _ | .push13 _ | .push14 _
  | .push15 _ | .push16 _ | .push17 _ | .push18 _ | .push19 _ | .push20 _ | .push21 _ | .push22 _ | .push23 _
  | .push24 _ | .push25 _ | .push26 _ | .push27 _ | .push28 _ | .push29 _ | .push30 _ | .push31 _ | .push32 _
  | .log0 | .log1 | .log2 | .log3 | .log4 | .unassignedA5 | .unassignedA6 | .unassignedA7 | .unassignedA8
  | .unassignedA9 | .unassignedAA | .unassignedAB | .unassignedAC | .unassignedAD | .unassignedAE
  | .unassignedAF | .unassignedB0 | .unassignedB1 | .unassignedB2 | .unassignedB3 | .unassignedB4
  | .unassignedB5 | .unassignedB6 | .unassignedB7 | .unassignedB8 | .unassignedB9 | .unassignedBA
  | .unassignedBB | .unassignedBC | .unassignedBD | .unassignedBE | .unassignedBF | .unassignedC0
  | .unassignedC1 | .unassignedC2 | .unassignedC3 | .unassignedC4 | .unassignedC5 | .unassignedC6
  | .unassignedC7 | .unassignedC8 | .unassignedC9 | .unassignedCA | .unassignedCB | .unassignedCC
  | .unassignedCD | .unassignedCE | .unassignedCF | .unassignedD0 | .unassignedD1 | .unassignedD2
  | .unassignedD3 | .unassignedD4 | .unassignedD5 | .unassignedD6 | .unassignedD7 | .unassignedD8
  | .unassignedD9 | .unassignedDA | .unassignedDB | .unassignedDC | .unassignedDD | .unassignedDE
  | .unassignedDF | .unassignedE0 | .unassignedE1 | .unassignedE2 | .unassignedE3 | .unassignedE4
  | .unassignedE5 | .unassignedE6 | .unassignedE7 | .unassignedE8 | .unassignedE9 | .unassignedEA
  | .unassignedEB | .unassignedEC | .unassignedED | .unassignedEE | .unassignedEF | .create | .call
  | .callcode | .delegatecall | .create2 | .unassignedF6 | .unassignedF7 | .unassignedF8 | .unassignedF9
  | .staticcall | .unassignedFB | .unassignedFC | .invalid | .selfdestruct
    => 0
  | .iszero | .not | .balance | .calldataload | .extcodesize | .pop | .mload | .jump | .dup1
    => 1
  | .add | .mul | .sub | .div | .sdiv | .mod | .smod | .exp | .signextend | .lt | .gt | .slt | .sgt | .eq
  | .and | .or | .xor | .shl | .shr | .sar | .sha3 | .mstore | .mstore8 | .jumpi | .dup2 | .swap1 | .ret
  | .revert
    => 2
  | .dup3 | .swap2
    => 3
  | .dup4 | .swap3
    => 4
  | .dup5 | .swap4
    => 5
  | .dup6 | .swap5
    => 6
  | .dup7 | .swap6
    => 7
  | .dup8 | .swap7
    => 8
  | .dup9 | .swap8
    => 9
  | .dup10 | .swap9
    => 10
  | .dup11 | .swap10
    => 11
  | .dup12 | .swap11
    => 12
  | .dup13 | .swap12
    => 13
  | .dup14 | .swap13
    => 14
  | .dup15 | .swap14
    => 15
  | .dup16 | .swap15
    => 16
  | .swap16
    => 17

/-- Whether `pushes - pops = 1` in the table: the instruction pushes one Word more than it pops (R290, R295). -/
def Instr.growsStack : Instr → Bool
  | .address | .origin | .caller | .callvalue | .calldatasize | .returndatasize | .coinbase | .timestamp
  | .number | .gaslimit | .chainid | .pc | .msize | .push1 _ | .push2 _ | .push3 _ | .push4 _ | .push5 _
  | .push6 _ | .push7 _ | .push8 _ | .push9 _ | .push10 _ | .push11 _ | .push12 _ | .push13 _ | .push14 _
  | .push15 _ | .push16 _ | .push17 _ | .push18 _ | .push19 _ | .push20 _ | .push21 _ | .push22 _ | .push23 _
  | .push24 _ | .push25 _ | .push26 _ | .push27 _ | .push28 _ | .push29 _ | .push30 _ | .push31 _ | .push32 _
  | .dup1 | .dup2 | .dup3 | .dup4 | .dup5 | .dup6 | .dup7 | .dup8 | .dup9 | .dup10 | .dup11 | .dup12 | .dup13
  | .dup14 | .dup15 | .dup16
    => true
  | .stop | .add | .mul | .sub | .div | .sdiv | .mod | .smod | .addmod | .mulmod | .exp | .signextend
  | .unassigned0C | .unassigned0D | .unassigned0E | .unassigned0F | .lt | .gt | .slt | .sgt | .eq | .iszero
  | .and | .or | .xor | .not | .byte | .shl | .shr | .sar | .unassigned1E | .unassigned1F | .sha3
  | .unassigned21 | .unassigned22 | .unassigned23 | .unassigned24 | .unassigned25 | .unassigned26
  | .unassigned27 | .unassigned28 | .unassigned29 | .unassigned2A | .unassigned2B | .unassigned2C
  | .unassigned2D | .unassigned2E | .unassigned2F | .balance | .calldataload | .calldatacopy | .codesize
  | .codecopy | .gasprice | .extcodesize | .extcodecopy | .returndatacopy | .extcodehash | .blockhash
  | .prevrandao | .selfbalance | .basefee | .blobhash | .blobbasefee | .unassigned4B | .unassigned4C
  | .unassigned4D | .unassigned4E | .unassigned4F | .pop | .mload | .mstore | .mstore8 | .sload | .sstore
  | .jump | .jumpi | .gas | .jumpdest | .tload | .tstore | .mcopy | .push0 | .swap1 | .swap2 | .swap3
  | .swap4 | .swap5 | .swap6 | .swap7 | .swap8 | .swap9 | .swap10 | .swap11 | .swap12 | .swap13 | .swap14
  | .swap15 | .swap16 | .log0 | .log1 | .log2 | .log3 | .log4 | .unassignedA5 | .unassignedA6 | .unassignedA7
  | .unassignedA8 | .unassignedA9 | .unassignedAA | .unassignedAB | .unassignedAC | .unassignedAD
  | .unassignedAE | .unassignedAF | .unassignedB0 | .unassignedB1 | .unassignedB2 | .unassignedB3
  | .unassignedB4 | .unassignedB5 | .unassignedB6 | .unassignedB7 | .unassignedB8 | .unassignedB9
  | .unassignedBA | .unassignedBB | .unassignedBC | .unassignedBD | .unassignedBE | .unassignedBF
  | .unassignedC0 | .unassignedC1 | .unassignedC2 | .unassignedC3 | .unassignedC4 | .unassignedC5
  | .unassignedC6 | .unassignedC7 | .unassignedC8 | .unassignedC9 | .unassignedCA | .unassignedCB
  | .unassignedCC | .unassignedCD | .unassignedCE | .unassignedCF | .unassignedD0 | .unassignedD1
  | .unassignedD2 | .unassignedD3 | .unassignedD4 | .unassignedD5 | .unassignedD6 | .unassignedD7
  | .unassignedD8 | .unassignedD9 | .unassignedDA | .unassignedDB | .unassignedDC | .unassignedDD
  | .unassignedDE | .unassignedDF | .unassignedE0 | .unassignedE1 | .unassignedE2 | .unassignedE3
  | .unassignedE4 | .unassignedE5 | .unassignedE6 | .unassignedE7 | .unassignedE8 | .unassignedE9
  | .unassignedEA | .unassignedEB | .unassignedEC | .unassignedED | .unassignedEE | .unassignedEF | .create
  | .call | .callcode | .ret | .delegatecall | .create2 | .unassignedF6 | .unassignedF7 | .unassignedF8
  | .unassignedF9 | .staticcall | .unassignedFB | .unassignedFC | .revert | .invalid | .selfdestruct
    => false

/-- DUP1 to DUP16: entry `k` is DUP(k+1) (R205). -/
def dupInstrs : List Instr :=
  [.dup1, .dup2, .dup3, .dup4, .dup5, .dup6, .dup7, .dup8, .dup9, .dup10, .dup11, .dup12, .dup13, .dup14,
   .dup15, .dup16]

/-- SWAP1 to SWAP16: entry `k` is SWAP(k+1) (R222). -/
def swapInstrs : List Instr :=
  [.swap1, .swap2, .swap3, .swap4, .swap5, .swap6, .swap7, .swap8, .swap9, .swap10, .swap11, .swap12,
   .swap13, .swap14, .swap15, .swap16]

/-- The positions at which the scan of R34 reads an opcode byte: the first, and after each the byte past its
immediates. -/
inductive OpcodePosition (code : List Byte) : Nat → Prop where
  | first : OpcodePosition code 0
  | next {i : Nat} (op : Byte) (hi : OpcodePosition code i) (hop : code[i]? = some op) :
      OpcodePosition code (i + 1 + pushLength op)

namespace Machine

/-- The invariant of the block: what every created state has and every step keeps. -/
structure State.Inv (s : State) : Prop where
  /-- The parameters meet R10. -/
  params : s.params.valid
  /-- "size never exceeds capacity" (R22). -/
  depth : s.stack.length ≤ 1024
  /-- The memory is in its canonical form, its length a multiple of 32 (R50). -/
  memory : s.mem.wf = true
  /-- Memory does not pass the ceiling (R54). -/
  ceiling : s.mem.len ≤ s.params.memCeiling
  /-- `JD` is the scan of the code (R34, R68). -/
  targets : s.jd = jumpdests s.code
  /-- The inputs are within their bounds (R322). -/
  codeBound : s.code.length ≤ s.params.codeMax
  calldataBound : s.calldata.length ≤ s.params.calldataMax
  /-- `calldatasize` is `|calldata|` (R36, D16). -/
  calldataSize : s.env.calldatasize = s.calldata.length
  /-- Every value `pc` takes is at most `|code| + 32` (R24). -/
  pcBound : s.pc ≤ s.code.length + 32
  /-- A fault kind is recorded exactly in the halt Invalid (R29, R290). -/
  faultKind : s.fault ≠ .noFault ↔ s.halt = .invalid
  /-- Return data is empty unless the block Returned or Reverted (R30). -/
  returnData : s.halt ≠ .returned → s.halt ≠ .reverted → s.rd = []
  /-- The refusal mark writes no `halt` (R313). -/
  refusal : s.refused = true → s.halt = .running

/-- The instruction runs: the stack becomes `st`, `pc` passes its one byte, and nothing else changes. -/
abbrev RunsTo (i : Instr) (s : State) (st : List Word) : Prop :=
  exec i s = .next { s with stack := st, pc := s.pc + 1 }

/-- The instruction takes the fault `k`: halt Invalid, the kind recorded, return data empty, and nothing else changes
(R291, R292). -/
abbrev FaultsWith (i : Instr) (s : State) (k : FaultKind) : Prop :=
  exec i s = .next { s with halt := .invalid, fault := k, rd := [] }

/-- An access that raises no MemoryOutOfBounds (R54, R56). -/
abbrev InBounds (p : Params) (off size : Nat) : Prop :=
  size = 0 ∧ p.zeroSizeExpands = false ∨ off + size ≤ p.memCeiling

/-- The length of memory after an access in bounds to a memory of `len` bytes (R55, R56). -/
def lengthAfter (p : Params) (off size len : Nat) : Nat :=
  if size = 0 ∧ p.zeroSizeExpands = false ∨ off + size ≤ len then len else 32 * ((off + size + 31) / 32)

/-- The bytes of memory an instruction accesses, from the operands on the stack: `Accesses i s off size` (R241 to R243,
R261, R283, R284). No other instruction accesses memory. -/
inductive Accesses : Instr → State → Nat → Nat → Prop where
  | mload {s : State} {off : Word} {st : List Word} (h : s.stack = off :: st) : Accesses .mload s off.toNat 32
  | mstore {s : State} {off v : Word} {st : List Word} (h : s.stack = off :: v :: st) :
      Accesses .mstore s off.toNat 32
  | mstore8 {s : State} {off v : Word} {st : List Word} (h : s.stack = off :: v :: st) :
      Accesses .mstore8 s off.toNat 1
  | sha3 {s : State} {off size : Word} {st : List Word} (h : s.stack = off :: size :: st) :
      Accesses .sha3 s off.toNat size.toNat
  | ret {s : State} {off size : Word} {st : List Word} (h : s.stack = off :: size :: st) :
      Accesses .ret s off.toNat size.toNat
  | revert {s : State} {off size : Word} {st : List Word} (h : s.stack = off :: size :: st) :
      Accesses .revert s off.toNat size.toNat

/-- The instruction is a jump that is taken, to the target on top of the stack: JUMP, or JUMPI with a nonzero condition
below it (R253, R254). -/
inductive Jumps : Instr → State → Word → Prop where
  | jump {s : State} {d : Word} {st : List Word} (h : s.stack = d :: st) : Jumps .jump s d
  | jumpi {s : State} {d c : Word} {st : List Word} (h : s.stack = d :: c :: st) (hc : c ≠ 0) : Jumps .jumpi s d

/-- The states of the runs (R328): a created state, and every state a step leads to. -/
inductive Reachable : State → Prop where
  | created {p : Params} {code calldata : List Byte} {env : Env} {s : State}
      (h : create p code calldata env = some s) : Reachable s
  | stepped {s t : State} (hs : Reachable s) (h : step s = .next t) : Reachable t

end Machine

end Sys2Proof
end

