-- ==== Sys2Proof/Certificates/Slice0/Obligations.lean ====
section
/-! DEFINITION. The statements for the provers. Each docstring names the rules of spec/ it is about, and what in it is
the spec's own decision or the model's choice. -/

open Sys2Proof Sys2Proof.Machine

/-- State.reset is what create gives for the empty code, the empty calldata, the zero environment and the model's
default parameters. Its stack and return data are empty, pc is 0, memory has length 0 and reads 0x00 everywhere,
halt is Running, fault None, no jump target, no refusal mark. The inputs and the open parameters are the model's
choice (log entries 1 and 2); the initial pc and stack are the spec's own decision D26. (R42, R320, log entries 1
and 2.) -/
def Obligations.ResetLeavesTheTabledState : Prop :=
  create Params.default [] [] Env.zero = some State.reset ∧
  State.reset.stack = [] ∧ State.reset.pc = 0 ∧ State.reset.mem.len = 0 ∧
  (∀ a, State.reset.mem.readByte a = 0) ∧ State.reset.halt = .running ∧ State.reset.fault = .noFault ∧
  State.reset.rd = [] ∧ State.reset.jd = [] ∧ State.reset.refused = false

/-- create answers a state exactly when the parameters meet R10 and the code and calldata are within their bounds. The
state then has the values of R42: the inputs as given, calldatasize the length of the calldata, the jump targets
scanned from the code, and everything else empty, 0, Running, None or false. The spec marks the sequence as its
decision D26 and the bounds as D29. (R42, R320, R322.) -/
def Obligations.CreateIsDefinedExactlyOnAcceptedInputs : Prop :=
  ∀ (p : Params) (code calldata : List Byte) (env : Env),
    (¬ (p.valid ∧ code.length ≤ p.codeMax ∧ calldata.length ≤ p.calldataMax) →
      create p code calldata env = none) ∧
    (p.valid → code.length ≤ p.codeMax → calldata.length ≤ p.calldataMax →
      ∃ s, create p code calldata env = some s ∧
        s.stack = [] ∧ s.pc = 0 ∧ s.mem.len = 0 ∧ (∀ a, s.mem.readByte a = 0) ∧
        s.code = code ∧ s.calldata = calldata ∧ s.env = { env with calldatasize := calldata.length } ∧
        s.halt = .running ∧ s.fault = .noFault ∧ s.rd = [] ∧ s.jd = jumpdests code ∧
        s.refused = false ∧ s.params = p)

/-- State.Inv holds of State.reset. (R42, R22, R50.) -/
def Obligations.ResetSatisfiesTheInvariant : Prop :=
  State.reset.Inv

/-- From every state with State.Inv (parameters as R10 asks, depth at most 1024, canonical memory of a length that is a
multiple of 32 and within the ceiling, JD the scan of the code, inputs within bounds, calldatasize the calldata's
length, pc at most |code| + 32, a fault kind exactly in the halt Invalid, return data only after RETURN or REVERT,
the refusal mark only while Running), a step that answers a next state answers one with State.Inv. (R22, R24, R29,
R30, R34, R36, R50, R54.) -/
def Obligations.StepKeepsTheInvariant : Prop :=
  ∀ s t : State, s.Inv → step s = .next t → t.Inv

/-- Every state reachable from a created state, for any accepted code, calldata, environment and parameters, has
State.Inv. (R20, R22, R50, R328.) -/
def Obligations.EveryReachableStateSatisfiesTheInvariant : Prop :=
  ∀ s : State, Reachable s → s.Inv

/-- For every well-formed instruction (all 256 rows, PUSHn with every immediate below 256^n) and any bytes after it,
decode of its encoding is the instruction. The byte values are the spec's general knowledge (D2) for all but five
rows. (R80, R82, R84, R85, spec/93_implementation_defined.md part 2.) -/
def Obligations.DecodeOfEncodeIsTheInstruction : Prop :=
  ∀ (i : Instr) (rest : List Byte), i.wellFormed = true → decode (encode i ++ rest) = .ok i

/-- Whatever bytes decode, the instruction read is well-formed and its encoding is the front of those bytes, each
missing immediate byte being 0x00 in its own position (the spec's decision D12). (R81, R82, R83, D12.) -/
def Obligations.EncodeOfDecodeIsThePaddedBytes : Prop :=
  ∀ (bs : List Byte) (i : Instr), decode bs = .ok i →
    i.wellFormed = true ∧ encode i = takePadded i.length bs

/-- decode answers an instruction exactly when there is at least one byte, and otherwise names the end of the code. The
spec marks this as derived. (R92, R88.) -/
def Obligations.DecodeFailsOnlyAtTheEndOfCode : Prop :=
  ∀ bs : List Byte, ((∃ i, decode bs = .ok i) ↔ bs ≠ []) ∧ (bs = [] → decode bs = .error .endOfCode)

/-- Sample bytes of every family, written from R80, R83, R84 and R85, decode to the instructions they stand for. All
byte values but 0x00, 0x01, 0x1D, 0x52 and 0x60 are the spec's general knowledge (D2). (R80, R83, R84, R85.) -/
def Obligations.WrittenOutBytesDecode : Prop :=
  decode [0x00] = .ok .stop ∧ decode [0x01] = .ok .add ∧ decode [0x0B] = .ok .signextend ∧
  decode [0x15] = .ok .iszero ∧ decode [0x1D] = .ok .sar ∧ decode [0x20] = .ok .sha3 ∧
  decode [0x33] = .ok .caller ∧ decode [0x3B] = .ok .extcodesize ∧ decode [0x46] = .ok .chainid ∧
  decode [0x50] = .ok .pop ∧ decode [0x52] = .ok .mstore ∧ decode [0x57] = .ok .jumpi ∧
  decode [0x60, 0xAB] = .ok (.push1 0xAB) ∧ decode [0x61, 0xAB] = .ok (.push2 0xAB00) ∧
  decode [0x62, 0x01, 0x02, 0x03, 0x99] = .ok (.push3 0x010203) ∧
  decode [0x80] = .ok .dup1 ∧ decode [0x8F] = .ok .dup16 ∧ decode [0x90] = .ok .swap1 ∧
  decode [0x9F] = .ok .swap16 ∧ decode [0xF3] = .ok .ret ∧ decode [0xFD] = .ok .revert ∧
  decode [0xFE] = .ok .invalid ∧ decode [0x0C] = .ok .unassigned0C ∧ decode [0x5F] = .ok .push0

/-- When the block is running and not refused and the bytes of the code from pc decode to an instruction, the step is
the meaning of that instruction at that state. One step per instruction is the spec's decision D1. (R250, R251.) -/
def Obligations.StepRunsTheDecodedInstruction : Prop :=
  ∀ (s : State) (i : Instr), s.halt = .running → s.refused = false →
    decode (s.code.drop s.pc) = .ok i → step s = exec i s

/-- In every running, not refused state with pc >= |code|, the step answers the same state with halt Stopped and empty
return data; pc, stack, memory and fault kind stay. pc is a natural number, so it does not wrap. (R26.) -/
def Obligations.StepPastTheCodeStops : Prop :=
  ∀ s : State, s.halt = .running → s.refused = false → s.code.length ≤ s.pc →
    step s = .next { s with halt := .stopped, rd := [] }

/-- With halt other than Running and no refusal mark, the step ends in the fault that names the halt reason; with the
refusal mark set, it ends in the refusal. The spec marks both as its decisions (D32, D34). (R281, R35, R303.) -/
def Obligations.TerminalAndRefusedStatesHaveNoSuccessor : Prop :=
  ∀ s : State,
    (s.refused = false → s.halt ≠ .running → step s = .fault (.terminated s.halt)) ∧
    (s.refused = true → step s = .refused .refusalMark)

/-- Whatever a step does, code, calldata, env, jd and params of the next state are those of the state before. (R31, R32,
R34, R37, R322.) -/
def Obligations.StepWritesNoInput : Prop :=
  ∀ s t : State, step s = .next t →
    t.code = s.code ∧ t.calldata = s.calldata ∧ t.env = s.env ∧ t.jd = s.jd ∧ t.params = s.params

/-- In every reachable state the memory length is a multiple of 32; a created state has length 0; no step makes the
length smaller; and after a step from a reachable state every byte between the old and the new length reads 0x00,
unless the step runs an MSTORE or MSTORE8 whose own bytes cover that address. (R50.) -/
def Obligations.MemoryLengthIsAMultipleOf32AndNeverDecreases : Prop :=
  (∀ s : State, Reachable s → s.mem.len % 32 = 0) ∧
  (∀ p code calldata env s, create p code calldata env = some s → s.mem.len = 0) ∧
  (∀ s t : State, step s = .next t → s.mem.len ≤ t.mem.len) ∧
  (∀ s t : State, Reachable s → step s = .next t → ∀ a, s.mem.len ≤ a → a < t.mem.len →
    t.mem.readByte a = 0 ∨
      ∃ i off size, decode (s.code.drop s.pc) = .ok i ∧ (i = .mstore ∨ i = .mstore8) ∧
        Accesses i s off size ∧ off ≤ a ∧ a < off + size)

/-- For every instruction whose min_depth (the table's column, listed in Safety.lean as R294 lists it) exceeds the
depth, the instruction takes StackUnderflow, code 1: halt Invalid, return data empty, everything else unchanged.
(R294.) -/
def Obligations.TooFewOperandsRaiseStackUnderflow : Prop :=
  (∀ (i : Instr) (s : State), s.stack.length < i.minDepth → FaultsWith i s .stackUnderflow) ∧
  FaultKind.stackUnderflow.code = 1

/-- On a stack of depth 1024 every instruction that pushes one Word more than it pops takes StackOverflow, code 2; an
instruction that pops at least as many Words as it pushes never records StackOverflow. (R295.) -/
def Obligations.FullStackRaisesStackOverflow : Prop :=
  (∀ (i : Instr) (s : State), i.growsStack = true → s.stack.length = 1024 → FaultsWith i s .stackOverflow) ∧
  (∀ (i : Instr) (s t : State), i.growsStack = false → exec i s = .next t → s.fault ≠ .stackOverflow →
    t.fault ≠ .stackOverflow) ∧
  FaultKind.stackOverflow.code = 2

/-- Whenever any instruction takes a running state to halt Invalid, a fault kind is recorded, return data is empty, and
stack, memory, pc and every other field are those of the state before. The spec marks atomicity as its decision D8
and the pc as D28. (R291, R292.) -/
def Obligations.FaultsAreAtomic : Prop :=
  ∀ (i : Instr) (s t : State), s.halt = .running → exec i s = .next t → t.halt = .invalid →
    t.fault ≠ .noFault ∧ t = { s with halt := .invalid, fault := t.fault, rd := [] }

/-- When an instruction takes a running state to halt Invalid: StackUnderflow needs a depth below min_depth, every other
kind a depth of at least min_depth (R293's order); StackOverflow a pushing instruction on a full stack (depth 1024;
a depth past 1024, which no run reaches, is the model's choice, log entry 14); InvalidJumpDestination a JUMP, or a
JUMPI whose condition is not 0, whose target is outside JD; MemoryOutOfBounds one of the six accesses with its own
offset and size not in bounds (offset + size past the ceiling, a size of 0 only with ZERO_SIZE_EXPANDS);
InvalidOpcode the byte 0xFE, a class U byte, or a class X byte with UNLISTED_CLASS = InvalidOpcode. None and the
five kinds have the codes 0 to 5. The codes and the order of checks are the spec's decisions D14 and D9. (R290,
R293, D9, D14, log entry 14.) -/
def Obligations.FaultsHaveOnlyTheirCauses : Prop :=
  (∀ (i : Instr) (s t : State), s.halt = .running → exec i s = .next t → t.halt = .invalid →
    (t.fault = .stackUnderflow → s.stack.length < i.minDepth) ∧
    (t.fault ≠ .stackUnderflow → i.minDepth ≤ s.stack.length) ∧
    (t.fault = .stackOverflow → i.growsStack = true ∧ 1024 ≤ s.stack.length) ∧
    (t.fault = .invalidJumpDestination → ∃ d, Jumps i s d ∧ d.toNat ∉ s.jd) ∧
    (t.fault = .memoryOutOfBounds → ∃ off size, Accesses i s off size ∧ ¬ InBounds s.params off size) ∧
    (t.fault = .invalidOpcode → i = .invalid ∨ i.opClass = .unassigned ∨
      i.opClass = .unlisted ∧ s.params.unlistedClass = .invalidOpcode)) ∧
  [FaultKind.noFault, .stackUnderflow, .stackOverflow, .invalidJumpDestination, .memoryOutOfBounds,
    .invalidOpcode].map FaultKind.code = [0, 1, 2, 3, 4, 5]

/-- For every instruction from a running, not refused state: if the block goes on, a jump that is taken (JUMP, or JUMPI
with a condition that is not 0) sets pc to the target on top of the stack, which is in JD; anything else, a JUMPI
with condition 0 among it, adds the instruction's length to pc; if the block halts or is refused, pc is unchanged
(the spec's decision D28 for halts). (R25, R257, D28.) -/
def Obligations.PcFollowsItsTable : Prop :=
  ∀ (i : Instr) (s t : State), s.halt = .running → s.refused = false → exec i s = .next t →
    (t.halt ≠ .running ∨ t.refused = true → t.pc = s.pc) ∧
    (t.halt = .running → t.refused = false →
      (∀ d, Jumps i s d → t.pc = d.toNat ∧ d.toNat ∈ s.jd) ∧
      ((¬ ∃ d, Jumps i s d) → i ≠ .jump ∧ t.pc = s.pc + i.length))

/-- When an instruction takes a running state to Stopped, Returned or Reverted, it is STOP, RETURN or REVERT, and it
leaves the fault kind as it was. (R28, R280.) -/
def Obligations.HaltReasonsComeFromTheirInstructions : Prop :=
  ∀ (i : Instr) (s t : State), s.halt = .running → exec i s = .next t →
    (t.halt = .stopped → i = .stop ∧ t.fault = s.fault) ∧
    (t.halt = .returned → i = .ret ∧ t.fault = s.fault) ∧
    (t.halt = .reverted → i = .revert ∧ t.fault = s.fault)

/-- Byte 0x01 is ADD. With a on top and b below, ADD replaces both by (a + b) mod 2^256, advances pc by 1 and changes
nothing else (no flag exists); with a depth below 2 it takes StackUnderflow. (R111.) -/
def Obligations.AddWraps : Prop :=
  (∀ rest, decode (0x01 :: rest) = .ok .add) ∧
  (∀ (s : State) (a b : Word) (st : List Word), s.stack = a :: b :: st →
    RunsTo .add s (BitVec.ofNat 256 ((a.toNat + b.toNat) % 2 ^ 256) :: st)) ∧
  (∀ s : State, s.stack.length < 2 → FaultsWith .add s .stackUnderflow)

/-- With a on top and b below: MUL pushes a * b and SUB a - b modulo 2^256; for b not 0 DIV pushes floor(a / b) and MOD
the remainder; for b = 0 DIV, SDIV, MOD and SMOD push 0 without a fault. pc advances by 1 and nothing else changes.
(R112, R113, R114, R116, R299.) -/
def Obligations.MulSubDivAndMod : Prop :=
  ∀ (s : State) (a b : Word) (st : List Word), s.stack = a :: b :: st →
    RunsTo .mul s (BitVec.ofNat 256 (a.toNat * b.toNat) :: st) ∧
    RunsTo .sub s (BitVec.ofInt 256 ((a.toNat : Int) - b.toNat) :: st) ∧
    (b ≠ 0 → RunsTo .div s (BitVec.ofNat 256 (a.toNat / b.toNat) :: st) ∧
      RunsTo .mod s (BitVec.ofNat 256 (a.toNat % b.toNat) :: st)) ∧
    (b = 0 → RunsTo .div s (0 :: st) ∧ RunsTo .sdiv s (0 :: st) ∧
      RunsTo .mod s (0 :: st) ∧ RunsTo .smod s (0 :: st))

/-- With a on top and b below, b not 0: SDIV pushes the quotient of the two's-complement values rounded toward zero,
modulo 2^256, and SMOD the remainder whose sign follows the dividend. Truncation is the spec's decision D23. (R115,
R117, D23.) -/
def Obligations.SdivAndSmodAreTruncatedDivision : Prop :=
  ∀ (s : State) (a b : Word) (st : List Word), s.stack = a :: b :: st → b ≠ 0 →
    RunsTo .sdiv s (BitVec.ofInt 256 (a.toInt.tdiv b.toInt) :: st) ∧
    RunsTo .smod s (BitVec.ofInt 256 (a.toInt.tmod b.toInt) :: st)

/-- With a on top and b below, b not 0, SDIV and SMOD push q and r with a = q * b + r modulo 2^256, r below b in
magnitude, and r 0 or of the dividend's sign. The spec marks the identity as derived. (R117, R115.) -/
def Obligations.SdivAndSmodRecomposeTheDividend : Prop :=
  ∀ (s : State) (a b : Word) (st : List Word), s.stack = a :: b :: st → b ≠ 0 →
    ∃ q r : Word, RunsTo .sdiv s (q :: st) ∧ RunsTo .smod s (r :: st) ∧
      a = q * b + r ∧ r.toInt.natAbs < b.toInt.natAbs ∧ (r = 0 ∨ (r.toInt < 0 ↔ a.toInt < 0))

/-- With the base a on top and the exponent b below, EXP pushes a^b, an exact natural-number power, modulo 2^256. The
model computes it by squaring (log entry 10); operand order and 0^0 = 1 are the spec's decision D22. (R118, R120,
D22.) -/
def Obligations.ExpIsTheExactPowerModulo : Prop :=
  ∀ (s : State) (a b : Word) (st : List Word), s.stack = a :: b :: st →
    RunsTo .exp s (BitVec.ofNat 256 (a.toNat ^ b.toNat) :: st)

/-- With the byte index a on top and the value b below, every bit of the result at or below 8a + 7 is that bit of b,
every higher bit is bit 8a + 7 of b, and for a >= 31 the result is b. The definition is the spec's decision D21.
(R119, D21.) -/
def Obligations.SignextendCopiesTheSignBit : Prop :=
  ∀ (s : State) (a b : Word) (st : List Word), s.stack = a :: b :: st →
    ∃ r : Word, RunsTo .signextend s (r :: st) ∧
      ∀ k, k < 256 → r.getLsbD k =
        if 31 ≤ a.toNat ∨ k ≤ 8 * a.toNat + 7 then b.getLsbD k else b.getLsbD (8 * a.toNat + 7)

/-- With a on top (and b below for all but ISZERO) each comparison replaces its operands by 1 when the relation of its
rule holds and by 0 otherwise; pc advances by 1 and nothing else changes. (R141, R142, R143, R144, R145, R146.) -/
def Obligations.ComparisonsPushOneOrZero : Prop :=
  (∀ (s : State) (a b : Word) (st : List Word), s.stack = a :: b :: st →
    RunsTo .lt s ((if a.toNat < b.toNat then 1 else 0) :: st) ∧
    RunsTo .gt s ((if a.toNat > b.toNat then 1 else 0) :: st) ∧
    RunsTo .slt s ((if a.toInt < b.toInt then 1 else 0) :: st) ∧
    RunsTo .sgt s ((if a.toInt > b.toInt then 1 else 0) :: st) ∧
    RunsTo .eq s ((if a.toNat = b.toNat then 1 else 0) :: st)) ∧
  (∀ (s : State) (a : Word) (st : List Word), s.stack = a :: st →
    RunsTo .iszero s ((if a.toNat = 0 then 1 else 0) :: st))

/-- With a on top (and b below for AND, OR, XOR) the result's bit k is the operation of the operands' bits k, for every
k below 256; NOT's result is also (2^256 - 1) - a. (R147, R148, R149, R150.) -/
def Obligations.BitwiseOperatorsActOnEveryBit : Prop :=
  (∀ (s : State) (a b : Word) (st : List Word), s.stack = a :: b :: st →
    ∃ x y z : Word, RunsTo .and s (x :: st) ∧ RunsTo .or s (y :: st) ∧ RunsTo .xor s (z :: st) ∧
      ∀ k, k < 256 → x.getLsbD k = (a.getLsbD k && b.getLsbD k) ∧ y.getLsbD k = (a.getLsbD k || b.getLsbD k) ∧
        z.getLsbD k = (a.getLsbD k ^^ b.getLsbD k)) ∧
  (∀ (s : State) (a : Word) (st : List Word), s.stack = a :: st →
    ∃ x : Word, RunsTo .not s (x :: st) ∧ x.toNat = 2 ^ 256 - 1 - a.toNat ∧
      ∀ k, k < 256 → x.getLsbD k = !a.getLsbD k)

/-- With the amount a on top and the value b below: for a >= 256 both push 0; otherwise SHL pushes b * 2^a modulo 2^256
and SHR pushes floor(b / 2^a). The operand order is the spec's decision D33. (R151, R152, R154, D33.) -/
def Obligations.ShlAndShrAreLogicalShifts : Prop :=
  ∀ (s : State) (a b : Word) (st : List Word), s.stack = a :: b :: st →
    (256 ≤ a.toNat → RunsTo .shl s (0 :: st) ∧ RunsTo .shr s (0 :: st)) ∧
    (a.toNat < 256 → RunsTo .shl s (BitVec.ofNat 256 (b.toNat * 2 ^ a.toNat) :: st) ∧
      RunsTo .shr s (BitVec.ofNat 256 (b.toNat / 2 ^ a.toNat) :: st))

/-- Byte 0x1D is SAR. With the amount a on top and the value b below: for a >= 256 it pushes 2^256 - 1 if bit 255 of b
is set and 0 if not; otherwise floor(signed(b) / 2^a) modulo 2^256. With a depth below 2 it takes StackUnderflow.
Nothing but stack and pc changes. (R153.) -/
def Obligations.SarRoundsDown : Prop :=
  (∀ rest, decode (0x1D :: rest) = .ok .sar) ∧
  (∀ (s : State) (a b : Word) (st : List Word), s.stack = a :: b :: st →
    (256 ≤ a.toNat → b.getLsbD 255 = true → RunsTo .sar s (BitVec.ofNat 256 (2 ^ 256 - 1) :: st)) ∧
    (256 ≤ a.toNat → b.getLsbD 255 = false → RunsTo .sar s (0 :: st)) ∧
    (a.toNat < 256 → RunsTo .sar s (BitVec.ofInt 256 (b.toInt / 2 ^ a.toNat) :: st))) ∧
  (∀ s : State, s.stack.length < 2 → FaultsWith .sar s .stackUnderflow)

/-- With the amount a on top and the value b below, bit k of the result is bit k + a of b where k + a is below 256 and
bit 255 of b elsewhere, for every a, however large. (R153, R154.) -/
def Obligations.SarCopiesTheSignBit : Prop :=
  ∀ (s : State) (a b : Word) (st : List Word), s.stack = a :: b :: st →
    ∃ r : Word, RunsTo .sar s (r :: st) ∧
      ∀ k, k < 256 → r.getLsbD k = if k + a.toNat < 256 then b.getLsbD (k + a.toNat) else b.getLsbD 255

/-- With an entry on the stack, POP removes it; JUMPDEST changes nothing but pc, in every state. Both advance pc by 1.
POP as an instruction is the spec's decision D4. (R171, R252, D4.) -/
def Obligations.PopDiscardsTheTopAndJumpdestOnlyAdvances : Prop :=
  (∀ (s : State) (a : Word) (st : List Word), s.stack = a :: st → RunsTo .pop s st) ∧
  (∀ s : State, RunsTo .jumpdest s s.stack)

/-- For every PUSHn with immediate v and a stack below 1024 entries, the instruction pushes v, advances pc by 1 + n and
changes nothing else. (R172, R173 to R204.) -/
def Obligations.PushPushesItsImmediate : Prop :=
  ∀ (i : Instr) (n : Nat) (v : Word) (s : State), i.immediate = some (n, v) → s.stack.length < 1024 →
    exec i s = .next { s with stack := v :: s.stack, pc := s.pc + (1 + n) }

/-- In a running, not refused state whose code holds the byte 0x5F + n at pc, 1 <= n <= 32: on a full stack (depth 1024;
a depth past 1024, which no run reaches, is the model's choice, log entry 14) the step takes StackOverflow;
otherwise it pushes the big-endian value of the n bytes after pc, each byte past the end of the code being 0x00, and
advances pc by 1 + n. The padding side is the spec's decision D12, and the bytes 0x61 to 0x7F are its general
knowledge (D2, log entry 16). (R172, R82, R83, D12, D2, log entry 14, log entry 16.) -/
def Obligations.StepPushReadsItsImmediateFromTheCode : Prop :=
  ∀ (s : State) (n : Nat), s.halt = .running → s.refused = false → 1 ≤ n → n ≤ 32 →
    s.code[s.pc]? = some (BitVec.ofNat 8 (0x5F + n)) →
    (1024 ≤ s.stack.length →
      step s = .next { s with halt := .invalid, fault := .stackOverflow, rd := [] }) ∧
    (s.stack.length < 1024 →
      ∃ v : Word, step s = .next { s with stack := v :: s.stack, pc := s.pc + 1 + n } ∧
        v.toNat = be ((List.range n).map fun k => s.code.getD (s.pc + 1 + k) 0))

/-- For n = 1 to 16 (entry k of dupInstrs is DUP(k+1)) the byte 0x7F + n is DUPn; with depth below n it takes
StackUnderflow; else with depth 1024 StackOverflow; else it pushes the n-th entry from the top, advances pc by 1 and
changes nothing else. (R205.) -/
def Obligations.DupCopies : Prop :=
  ∀ (k : Nat) (i : Instr), dupInstrs[k]? = some i →
    (∀ rest, decode (BitVec.ofNat 8 (0x7F + (k + 1)) :: rest) = .ok i) ∧
    ∀ s : State,
      (s.stack.length < k + 1 → FaultsWith i s .stackUnderflow) ∧
      (s.stack.length = 1024 → FaultsWith i s .stackOverflow) ∧
      (∀ v, s.stack[k]? = some v → s.stack.length < 1024 → RunsTo i s (v :: s.stack))

/-- For n = 1 to 16 (entry k of swapInstrs is SWAP(k+1)) the byte 0x8F + n is SWAPn; with depth below n + 1 it takes
StackUnderflow; else the new stack has the same depth, entries 0 and n exchanged and every other entry as before, pc
advances by 1 and nothing else changes. (R222.) -/
def Obligations.SwapExchanges : Prop :=
  ∀ (k : Nat) (i : Instr), swapInstrs[k]? = some i →
    (∀ rest, decode (BitVec.ofNat 8 (0x8F + (k + 1)) :: rest) = .ok i) ∧
    ∀ s : State,
      (s.stack.length < k + 2 → FaultsWith i s .stackUnderflow) ∧
      (k + 2 ≤ s.stack.length →
        ∃ st, RunsTo i s st ∧ st.length = s.stack.length ∧
          st[0]? = s.stack[k + 1]? ∧ st[k + 1]? = s.stack[0]? ∧
          ∀ j, j ≠ 0 → j ≠ k + 1 → st[j]? = s.stack[j]?)

/-- For n = 1 to 16, on a stack deep enough, SWAPn answers a state on which SWAPn answers a state with the first stack.
(R222.) -/
def Obligations.SwapTwiceRestoresTheStack : Prop :=
  ∀ (k : Nat) (i : Instr) (s : State), swapInstrs[k]? = some i → k + 2 ≤ s.stack.length →
    ∃ t u : State, exec i s = .next t ∧ exec i t = .next u ∧ u.stack = s.stack

/-- With the offset on top and offset + 32 within the ceiling, MLOAD answers a state whose top is the Word with byte k
from the most significant equal to the memory byte at offset + k, memory reads as before at every address, its
length is the least multiple of 32 that holds the access or the old length, pc advances by 1 and nothing else
changes. (R241, R52, R55, R57.) -/
def Obligations.MloadReadsTheWordBigEndian : Prop :=
  ∀ (s : State) (off : Word) (st : List Word), s.stack = off :: st →
    off.toNat + 32 ≤ s.params.memCeiling →
    ∃ (v : Word) (m : Memory),
      exec .mload s = .next { s with stack := v :: st, mem := m, pc := s.pc + 1 } ∧
      (∀ k, k < 32 → BitVec.ofNat 8 (v.toNat / 256 ^ (31 - k)) = s.mem.readByte (off.toNat + k)) ∧
      m.len = lengthAfter s.params off.toNat 32 s.mem.len ∧
      ∀ a, m.readByte a = s.mem.readByte a

/-- Byte 0x52 is MSTORE. With the offset on top and the value below, in a canonical memory: within the ceiling it pops
both, the byte at offset + k is byte k of the value from the most significant for k below 32, every other address
reads as before, the length is the least multiple of 32 that holds the access or the old length, pc advances by 1
and nothing else changes; with a depth below 2 it takes StackUnderflow and past the ceiling MemoryOutOfBounds.
(R242.) -/
def Obligations.MstoreStoresTheWordBigEndian : Prop :=
  (∀ rest, decode (0x52 :: rest) = .ok .mstore) ∧
  (∀ (s : State) (off v : Word) (st : List Word), s.mem.wf = true → s.stack = off :: v :: st →
    off.toNat + 32 ≤ s.params.memCeiling →
    ∃ m : Memory,
      exec .mstore s = .next { s with stack := st, mem := m, pc := s.pc + 1 } ∧
      (∀ k, k < 32 → m.readByte (off.toNat + k) = BitVec.ofNat 8 (v.toNat / 256 ^ (31 - k))) ∧
      (∀ a, a < off.toNat ∨ off.toNat + 32 ≤ a → m.readByte a = s.mem.readByte a) ∧
      m.len = (if off.toNat + 32 ≤ s.mem.len then s.mem.len else 32 * ((off.toNat + 32 + 31) / 32))) ∧
  (∀ s : State, s.stack.length < 2 → FaultsWith .mstore s .stackUnderflow) ∧
  (∀ (s : State) (off v : Word) (st : List Word), s.stack = off :: v :: st →
    s.params.memCeiling < off.toNat + 32 → FaultsWith .mstore s .memoryOutOfBounds)

/-- With the offset on top and the value below, in a canonical memory, offset + 1 within the ceiling: MSTORE8 pops both,
the byte at the offset is v mod 256, every other address reads as before, the length is the least multiple of 32
that holds the one byte or the old length, pc advances by 1 and nothing else changes. The byte chosen is the spec's
decision D24. (R243, R58, D24.) -/
def Obligations.Mstore8StoresTheLowByte : Prop :=
  ∀ (s : State) (off v : Word) (st : List Word), s.mem.wf = true → s.stack = off :: v :: st →
    off.toNat + 1 ≤ s.params.memCeiling →
    ∃ m : Memory,
      exec .mstore8 s = .next { s with stack := st, mem := m, pc := s.pc + 1 } ∧
      (m.readByte off.toNat).toNat = v.toNat % 256 ∧
      (∀ a, a ≠ off.toNat → m.readByte a = s.mem.readByte a) ∧
      m.len = lengthAfter s.params off.toNat 1 s.mem.len

/-- In a canonical memory, after MSTORE of v at an offset with offset + 32 within the ceiling, MLOAD at the same offset
pushes v and changes no memory. The spec marks the law as derived. (R245, R241, R242.) -/
def Obligations.MloadAfterMstoreReturnsTheWord : Prop :=
  ∀ (s : State) (off v : Word) (st : List Word), s.mem.wf = true → s.stack = off :: v :: st →
    off.toNat + 32 ≤ s.params.memCeiling →
    ∃ t u : State, exec .mstore s = .next t ∧
      exec .mload { t with stack := off :: t.stack } = .next u ∧ u.stack = v :: st ∧ u.mem = t.mem

/-- In a canonical memory, after MSTORE of v at an offset and MSTORE8 of x at offset + 31 (the sum a Word, the access
within the ceiling), MLOAD at the offset pushes v - v mod 256 + x mod 256. The spec marks the example as derived.
(R70, R52.) -/
def Obligations.MixedWidthAccessesSeeBytes : Prop :=
  ∀ (s : State) (off v x : Word) (st : List Word), s.mem.wf = true → s.stack = off :: v :: st →
    off.toNat + 32 ≤ s.params.memCeiling → off.toNat + 31 < 2 ^ 256 →
    ∃ t u w : State, exec .mstore s = .next t ∧
      exec .mstore8 { t with stack := (off + 31) :: x :: st } = .next u ∧
      exec .mload { u with stack := off :: st } = .next w ∧
      w.stack = BitVec.ofNat 256 (v.toNat - v.toNat % 256 + x.toNat % 256) :: st

/-- With a stack below 1024 entries MSIZE pushes |M| and PC pushes pc, advance pc by 1 and change nothing else. A number
of 2^256 or more is no Word: what is pushed is then a free value (log entry 5). (R244, R255, log entry 5.) -/
def Obligations.MsizeAndPcPushTheirNumbers : Prop :=
  ∀ s : State, s.stack.length < 1024 →
    ∃ n p : Word, RunsTo .msize s (n :: s.stack) ∧ RunsTo .pc s (p :: s.stack) ∧
      (s.mem.len < 2 ^ 256 → n.toNat = s.mem.len) ∧ (s.pc < 2 ^ 256 → p.toNat = s.pc)

/-- MLOAD and MSTORE past the ceiling with 32 bytes, MSTORE8 with 1 byte, and SHA3, RETURN and REVERT with the size from
the stack (a size of 0 only with ZERO_SIZE_EXPANDS) take MemoryOutOfBounds, code 4; memory, stack and everything
else but halt, fault and return data are unchanged. (R297.) -/
def Obligations.OutOfBoundsAccessesFault : Prop :=
  (∀ (s : State) (off : Word) (st : List Word), s.stack = off :: st →
    s.params.memCeiling < off.toNat + 32 → FaultsWith .mload s .memoryOutOfBounds) ∧
  (∀ (s : State) (off v : Word) (st : List Word), s.stack = off :: v :: st →
    (s.params.memCeiling < off.toNat + 32 → FaultsWith .mstore s .memoryOutOfBounds) ∧
    (s.params.memCeiling < off.toNat + 1 → FaultsWith .mstore8 s .memoryOutOfBounds) ∧
    (s.params.memCeiling < off.toNat + v.toNat → v ≠ 0 ∨ s.params.zeroSizeExpands = true →
      FaultsWith .sha3 s .memoryOutOfBounds ∧ FaultsWith .ret s .memoryOutOfBounds ∧
      FaultsWith .revert s .memoryOutOfBounds)) ∧
  FaultKind.memoryOutOfBounds.code = 4

/-- From a length that is a multiple of 32, an expansion that succeeds keeps every byte; a zero-size access with
ZERO_SIZE_EXPANDS false changes nothing; any other gives a length that is a multiple of 32, holds the old length and
the end of the access, is at most every such number, and was within the ceiling. The zero-size parameter is the
spec's decision D6. (R54, R55, R56.) -/
def Obligations.ExpansionIsTheLeastMultipleOf32 : Prop :=
  ∀ (p : Params) (off size : Nat) (m m' : Memory), m.len % 32 = 0 → m.expand p off size = some m' →
    (∀ a, m'.readByte a = m.readByte a) ∧
    (size = 0 → p.zeroSizeExpands = false → m' = m) ∧
    (size ≠ 0 ∨ p.zeroSizeExpands = true →
      off + size ≤ p.memCeiling ∧ m'.len % 32 = 0 ∧ m.len ≤ m'.len ∧ off + size ≤ m'.len ∧
      ∀ n, n % 32 = 0 → m.len ≤ n → off + size ≤ n → m'.len ≤ n)

/-- The canonical form is unique: two memories in it with the same length and the same byte at every address are the
same data. At and past its length a canonical memory reads 0x00. The form is the model's choice (log entry 6). (R50,
R33, log entry 6.) -/
def Obligations.CanonicalMemoriesWithEqualBytesAreEqual : Prop :=
  (∀ m m' : Memory, m.wf = true → m'.wf = true → m.len = m'.len →
    (∀ a, m.readByte a = m'.readByte a) → m = m') ∧
  (∀ (m : Memory) (a : Nat), m.wf = true → m.len ≤ a → m.readByte a = 0)

/-- With t on top: if t is in JD, JUMP pops it and sets pc to t (not incremented), changing nothing else; if not, it
takes InvalidJumpDestination with t still on the stack. (R253, R256, R296.) -/
def Obligations.JumpGoesExactlyToItsTargets : Prop :=
  ∀ (s : State) (t : Word) (st : List Word), s.stack = t :: st →
    (t.toNat ∈ s.jd → exec .jump s = .next { s with stack := st, pc := t.toNat }) ∧
    (t.toNat ∉ s.jd → FaultsWith .jump s .invalidJumpDestination)

/-- With t on top and c below: for c = 0 JUMPI pops both and advances pc by 1 whatever t is; for c not 0 it pops both
and sets pc to t if t is in JD, and takes InvalidJumpDestination if not. Checking only a taken jump is the spec's
decision D11. (R254, R296, D11.) -/
def Obligations.JumpiJumpsOnlyOnANonzeroCondition : Prop :=
  ∀ (s : State) (t c : Word) (st : List Word), s.stack = t :: c :: st →
    (c = 0 → RunsTo .jumpi s st) ∧
    (c ≠ 0 → t.toNat ∈ s.jd → exec .jumpi s = .next { s with stack := st, pc := t.toNat }) ∧
    (c ≠ 0 → t.toNat ∉ s.jd → FaultsWith .jumpi s .invalidJumpDestination)

/-- A number is in the scan of a code exactly when the code holds 0x5B there and it is a position at which an opcode is
read: the first, or the one past an opcode and its immediates. Skipping PUSH data is the spec's decision D10. (R34,
R256, D10.) -/
def Obligations.JumpTargetsAreTheJumpdestOpcodePositions : Prop :=
  ∀ (code : List Byte) (t : Nat),
    t ∈ jumpdests code ↔ OpcodePosition code t ∧ code[t]? = some 0x5B

/-- In every reachable state pc is a position at which the scan of the code reads an opcode, so no step decodes a byte
of PUSH data. (R25, R88, R172.) -/
def Obligations.RunsStayOnOpcodePositions : Prop :=
  ∀ s : State, Reachable s → OpcodePosition s.code s.pc

/-- With the offset on top, the size below and the access in bounds, SHA3 pushes the big-endian value of KECCAK256 of
the bytes of the range (an address at or past the length reading 0x00), memory reads as before, its length is that
of a read, pc advances by 1 and nothing else changes. Operand and digest order are the spec's decision D20. (R261,
R57, D20.) -/
def Obligations.Sha3PushesTheDigestOfTheRange : Prop :=
  ∀ (s : State) (off size : Word) (st : List Word), s.stack = off :: size :: st →
    InBounds s.params off.toNat size.toNat →
    ∃ (h : Word) (m : Memory),
      exec .sha3 s = .next { s with stack := h :: st, mem := m, pc := s.pc + 1 } ∧
      h.toNat = be (keccak256 ((List.range size.toNat).map fun k => s.mem.readByte (off.toNat + k))) ∧
      m.len = lengthAfter s.params off.toNat size.toNat s.mem.len ∧
      ∀ a, m.readByte a = s.mem.readByte a

/-- With a stack below 1024 entries ADDRESS, CALLER, ORIGIN, CALLVALUE, CHAINID, COINBASE, NUMBER, TIMESTAMP, GASLIMIT
and CALLDATASIZE push their field of the snapshot and RETURNDATASIZE pushes 0; with an operand on the stack BALANCE
and EXTCODESIZE replace it by 0. Widths, RETURNDATASIZE and the lookups' operand are the spec's decisions D17, D15,
D19; a calldata size of 2^256 or more gives a free value (log entry 5). (R262, R263 to R272, R274, R275, R276, log
entry 5.) -/
def Obligations.EnvironmentReadsPushTheirFields : Prop :=
  (∀ s : State, s.stack.length < 1024 →
    RunsTo .address s (s.env.address.setWidth 256 :: s.stack) ∧
    RunsTo .caller s (s.env.caller.setWidth 256 :: s.stack) ∧
    RunsTo .origin s (s.env.origin.setWidth 256 :: s.stack) ∧
    RunsTo .callvalue s (s.env.callvalue :: s.stack) ∧
    RunsTo .chainid s (s.env.chainid :: s.stack) ∧
    RunsTo .coinbase s (s.env.coinbase.setWidth 256 :: s.stack) ∧
    RunsTo .number s (s.env.number :: s.stack) ∧
    RunsTo .timestamp s (s.env.timestamp :: s.stack) ∧
    RunsTo .gaslimit s (s.env.gaslimit :: s.stack) ∧
    RunsTo .returndatasize s (0 :: s.stack) ∧
    ∃ n : Word, RunsTo .calldatasize s (n :: s.stack) ∧
      (s.env.calldatasize < 2 ^ 256 → n.toNat = s.env.calldatasize)) ∧
  (∀ (s : State) (a : Word) (st : List Word), s.stack = a :: st →
    RunsTo .balance s (0 :: st) ∧ RunsTo .extcodesize s (0 :: st))

/-- With the offset on top, CALLDATALOAD replaces it by the Word whose byte k from the most significant is the calldata
byte at offset + k, or 0x00 at and past the end of the calldata, for every offset; memory and everything else but pc
stay. The rule is the spec's decision D18. (R273, R71, D18.) -/
def Obligations.CalldataloadReads32BytesZeroFilled : Prop :=
  ∀ (s : State) (off : Word) (st : List Word), s.stack = off :: st →
    ∃ v : Word, RunsTo .calldataload s (v :: st) ∧
      ∀ k, k < 32 → BitVec.ofNat 8 (v.toNat / 256 ^ (31 - k)) = s.calldata.getD (off.toNat + k) 0

/-- Every other instruction, run in two states that differ only in the calldata and its size, answers two states that
differ only there. (R32, R262.) -/
def Obligations.CalldataIsReadOnlyByItsTwoInstructions : Prop :=
  ∀ (i : Instr) (s t : State) (cd : List Byte) (n : Nat), i ≠ .calldataload → i ≠ .calldatasize →
    exec i s = .next t →
    exec i { s with calldata := cd, env := { s.env with calldatasize := n } } =
      .next { t with calldata := cd, env := { t.env with calldatasize := n } }

/-- Byte 0x00 is STOP. In every state STOP answers the same state with halt Stopped and empty return data, pc, stack and
memory unchanged; a running, not refused state with pc >= |code| steps to the same. (R282.) -/
def Obligations.StopHalts : Prop :=
  (∀ rest, decode (0x00 :: rest) = .ok .stop) ∧
  (∀ s : State, exec .stop s = .next { s with halt := .stopped, rd := [] }) ∧
  (∀ s : State, s.halt = .running → s.refused = false → s.code.length ≤ s.pc →
    step s = .next { s with halt := .stopped, rd := [] })

/-- With the offset on top, the size below and the access in bounds, RETURN halts Returned and REVERT Reverted: both
operands are popped, the return data is the bytes of the range (0x00 at and past the length), memory reads as before
with the length of a read, and pc, fault and everything else are unchanged. Popping and operand order are the spec's
decision D13, the pc D28. (R283, R284, R57, D13, D28.) -/
def Obligations.ReturnAndRevertHaltWithTheRange : Prop :=
  ∀ (s : State) (off size : Word) (st : List Word), s.stack = off :: size :: st →
    InBounds s.params off.toNat size.toNat →
    ∃ m : Memory,
      exec .ret s = .next { s with
        stack := st, mem := m, halt := .returned
        rd := (List.range size.toNat).map fun k => s.mem.readByte (off.toNat + k) } ∧
      exec .revert s = .next { s with
        stack := st, mem := m, halt := .reverted
        rd := (List.range size.toNat).map fun k => s.mem.readByte (off.toNat + k) } ∧
      m.len = lengthAfter s.params off.toNat size.toNat s.mem.len ∧
      ∀ a, m.readByte a = s.mem.readByte a

/-- The byte 0xFE, every instruction of class U (107 bytes, the table's class column) and, when UNLISTED_CLASS is
InvalidOpcode, every instruction of class X take InvalidOpcode, code 5, in every state: halt Invalid, return data
empty, stack, memory, pc and everything else unchanged. (R298.) -/
def Obligations.InvalidAndUnassignedBytesRaiseInvalidOpcode : Prop :=
  (∀ rest, decode (0xFE :: rest) = .ok .invalid) ∧
  (∀ (i : Instr) (s : State),
    i = .invalid ∨ i.opClass = .unassigned ∨
      i.opClass = .unlisted ∧ s.params.unlistedClass = .invalidOpcode →
    FaultsWith i s .invalidOpcode) ∧
  FaultKind.invalidOpcode.code = 5

/-- When UNLISTED_CLASS is Refused, every instruction of class X answers the same state with the refusal mark set, in
every state; that state has no outputs while Running and no step. The mark is the spec's decision D34, the class D3.
(R86, R35, R313, D3, D34.) -/
def Obligations.ClassXBytesSetTheRefusalMark : Prop :=
  ∀ (i : Instr) (s : State), i.opClass = .unlisted → s.params.unlistedClass = .refused →
    exec i s = .next { s with refused := true } ∧
    step { s with refused := true } = .refused .refusalMark ∧
    (s.halt = .running → State.outputs { s with refused := true } = none)

/-- A running state has no outputs; a halted one outputs its stack bottom to top, all |M| bytes of memory, the return
data and the 3-bit codes of halt and fault. The ports and codes are the spec's decisions D25, D31, D14. (R40, R41,
R286.) -/
def Obligations.OutputsAreDefinedExactlyAtAHalt : Prop :=
  ∀ s : State,
    (s.halt = .running → s.outputs = none) ∧
    (s.halt ≠ .running → s.outputs = some
      { stackOut := s.stack.reverse, memOut := (List.range s.mem.len).map s.mem.readByte
        rdOut := s.rd, haltOut := s.halt.code, faultOut := s.fault.code })

/-- From every state, reachable or not, whose JD is the scan of its code and whose pc is a position at which that scan
reads an opcode, a step that answers a next state answers one of which both hold; every created state is such a
state. (R25, R34, R88, R253, R254.) -/
def Obligations.StepKeepsPcOnOpcodePositions : Prop :=
  (∀ s t : State, s.jd = jumpdests s.code → OpcodePosition s.code s.pc → step s = .next t →
    t.jd = jumpdests t.code ∧ OpcodePosition t.code t.pc) ∧
  (∀ p code calldata env s, create p code calldata env = some s →
    s.jd = jumpdests s.code ∧ OpcodePosition s.code s.pc)
end

