-- ==== Sys2Proof/Laws/Arithmetic.lean ====
section
/-! SUPPORT. The signed view of a Word, and that squaring computes the exact power modulo 2^256. -/

namespace Sys2Proof.Machine

/-- R14's `signed` is the two's-complement value of the bit vector. -/
theorem signed_eq_toInt (v : Word) : signed v = v.toInt := by
  have hm : v.getLsbD 255 = v.msb := (BitVec.msb_eq_getLsbD_last v).symm
  rw [signed, hm, BitVec.toInt_eq_msb_cond]

/-- `powWord` is the exact power, narrowed, for every exponent that fits the bits it reads. -/
theorem powWord_eq (bits : Nat) (base : Word) (e : Nat) (h : e < 2 ^ bits) :
    powWord bits base e = BitVec.ofNat 256 (base.toNat ^ e) := by
  induction bits generalizing base e with
  | zero =>
    have : e = 0 := by simpa using h
    subst this
    rfl
  | succ bits ih =>
    have hlt : e / 2 < 2 ^ bits := by
      rw [Nat.pow_succ] at h
      omega
    have hhalf : powWord bits (base * base) (e / 2) = BitVec.ofNat 256 (base.toNat ^ (2 * (e / 2))) := by
      rw [ih _ _ hlt]
      apply BitVec.eq_of_toNat_eq
      simp only [BitVec.toNat_ofNat, BitVec.toNat_mul]
      rw [← Nat.pow_mod, Nat.pow_mul, pow_two]
    unfold powWord
    rw [hhalf]
    split
    · rename_i hodd
      have he : e = 2 * (e / 2) + 1 := by omega
      apply BitVec.eq_of_toNat_eq
      conv_rhs => rw [he]
      simp only [BitVec.toNat_mul, BitVec.toNat_ofNat]
      rw [Nat.mul_mod_mod, Nat.mul_comm, ← Nat.pow_succ]
    · rename_i heven
      have he : e = 2 * (e / 2) := by omega
      conv_rhs => rw [he]

/-- EXP's computation is `word(a ^ b)` (R118). -/
theorem expWord_eq (a b : Word) : expWord a b = BitVec.ofNat 256 (a.toNat ^ b.toNat) :=
  powWord_eq 256 a b.toNat b.isLt

end Sys2Proof.Machine
end

