-- ==== Sys2Proof/Laws/Bytes.lean ====
section
/-! SUPPORT. The big-endian conversions of R15: lengths, bounds, and that they invert each other. -/

namespace Sys2Proof

@[simp] theorem bytesBe_length (v n : Nat) : (bytesBe v n).length = n := by
  induction n with
  | zero => rfl
  | succ n ih => simp [bytesBe, ih]

@[simp] theorem takePadded_length (n : Nat) (bs : List Byte) : (takePadded n bs).length = n := by
  simp [takePadded]

/-- Enough bytes: nothing is padded. -/
theorem takePadded_append (bs rest : List Byte) : takePadded bs.length (bs ++ rest) = bs := by
  simp [takePadded]

/-- Each byte of a padded take: the byte of the sequence, 0x00 past its end (R83). -/
theorem takePadded_getElem? (n k : Nat) (bs : List Byte) (hk : k < n) :
    (takePadded n bs)[k]? = some (bs.getD k 0) := by
  by_cases h : k < bs.length
  · simp [takePadded, hk, h]
  · have h' : bs.length ≤ k := Nat.le_of_not_lt h
    simp [takePadded, hk, List.getElem_append_right h', List.getElem?_eq_none h']

theorem be_lt (B : List Byte) : be B < 256 ^ B.length := by
  induction B with
  | nil => simp [be]
  | cons b bs ih =>
    have hb : b.toNat < 256 := b.isLt
    have : (b.toNat + 1) * 256 ^ bs.length ≤ 256 * 256 ^ bs.length := Nat.mul_le_mul_right _ (by omega)
    simp only [be, List.length_cons, Nat.pow_succ]
    nlinarith

/-- `be(bytes_be(v, n)) = v mod 256^n` (R15). -/
theorem be_bytesBe (v n : Nat) : be (bytesBe v n) = v % 256 ^ n := by
  induction n with
  | zero => simp [be, bytesBe, Nat.mod_one]
  | succ n ih =>
    simp only [bytesBe, be, bytesBe_length, BitVec.toNat_ofNat, ih]
    have hm : v % 256 ^ (n + 1) = v % 256 ^ n + 256 ^ n * (v / 256 ^ n % 256) := by
      rw [Nat.pow_succ, Nat.mod_mul]
    rw [hm]
    ring

/-- A Word's 32 bytes give the Word back. -/
theorem ofNat_be_bytesBe_32 (v : BitVec 256) : BitVec.ofNat 256 (be (bytesBe v.toNat 32)) = v := by
  rw [be_bytesBe, Nat.mod_eq_of_lt (by have := v.isLt; omega), BitVec.ofNat_toNat, BitVec.setWidth_eq]

/-- The bytes of the number a byte sequence stands for are that sequence. -/
theorem bytesBe_be (B : List Byte) : bytesBe (be B) B.length = B := by
  induction B with
  | nil => rfl
  | cons b bs ih =>
    have hlt := be_lt bs
    have hpos : 0 < 256 ^ bs.length := by positivity
    have hdiv : (b.toNat * 256 ^ bs.length + be bs) / 256 ^ bs.length = b.toNat := by
      rw [Nat.add_comm, Nat.add_mul_div_right _ _ hpos, Nat.div_eq_of_lt hlt, Nat.zero_add]
    have htail : ∀ n, n ≤ bs.length → bytesBe (b.toNat * 256 ^ bs.length + be bs) n = bytesBe (be bs) n := by
      intro n hn
      induction n with
      | zero => rfl
      | succ n ihn =>
        have hpow : 256 ^ bs.length = 256 ^ n * 256 * 256 ^ (bs.length - (n + 1)) := by
          rw [← Nat.pow_succ, ← Nat.pow_add]
          congr 1
          omega
        have hsplit : (b.toNat * 256 ^ bs.length + be bs) / 256 ^ n
            = be bs / 256 ^ n + 256 * (b.toNat * 256 ^ (bs.length - (n + 1))) := by
          have : b.toNat * 256 ^ bs.length + be bs
              = be bs + 256 ^ n * (256 * (b.toNat * 256 ^ (bs.length - (n + 1)))) := by
            rw [hpow]; ring
          rw [this, Nat.add_mul_div_left _ _ (by positivity)]
        simp only [bytesBe, ihn (by omega)]
        congr 1
        apply BitVec.eq_of_toNat_eq
        simp only [BitVec.toNat_ofNat, hsplit]
        omega
    simp only [be, List.length_cons, bytesBe, hdiv, htail _ (Nat.le_refl _), ih]
    simp

/-- Byte `k` of `bytes_be(v, n)`. -/
theorem bytesBe_getElem? (v n k : Nat) (hk : k < n) :
    (bytesBe v n)[k]? = some (BitVec.ofNat 8 (v / 256 ^ (n - 1 - k))) := by
  induction n generalizing k with
  | zero => omega
  | succ n ih =>
    cases k with
    | zero => simp [bytesBe]
    | succ k =>
      simp only [bytesBe, List.getElem?_cons_succ, ih k (by omega)]
      have : n - 1 - k = n + 1 - 1 - (k + 1) := by omega
      rw [this]

/-- 32 bytes are a Word. -/
theorem be_lt_word {B : List Byte} (h : B.length = 32) : be B < 2 ^ 256 := by
  have hlt := be_lt B
  rw [h] at hlt
  norm_num at hlt ⊢
  exact hlt

/-- Byte `k` of 32 bytes, from their value. -/
theorem ofNat_be_div {B : List Byte} (h : B.length = 32) {k : Nat} (hk : k < 32) :
    BitVec.ofNat 8 (be B / 256 ^ (31 - k)) = B.getD k 0 := by
  have h1 := bytesBe_getElem? (be B) 32 k hk
  have h2 := bytesBe_be B
  rw [h] at h2
  rw [h2] at h1
  rw [List.getD_eq_getElem?_getD, h1]
  rfl

/-- The last byte is the least significant. -/
theorem be_append_singleton (B : List Byte) (b : Byte) : be (B ++ [b]) = be B * 256 + b.toNat := by
  induction B with
  | nil => simp [be]
  | cons c B ih =>
    simp only [List.cons_append, be, ih, List.length_append, List.length_cons, List.length_nil, Nat.pow_succ]
    ring

end Sys2Proof
end

