-- ==== Sys2Proof/Laws/State.lean ====
section
/-! SUPPORT. What each named update of the state leaves in each field: one lemma per field per update. -/

namespace Sys2Proof.Machine

/-! ### setStack -/

@[simp] theorem State.setStack_stack (st : List Word) (s : State) : (s.setStack st).stack = st := rfl
@[simp] theorem State.setStack_pc (st : List Word) (s : State) : (s.setStack st).pc = s.pc := rfl
@[simp] theorem State.setStack_mem (st : List Word) (s : State) : (s.setStack st).mem = s.mem := rfl
@[simp] theorem State.setStack_code (st : List Word) (s : State) : (s.setStack st).code = s.code := rfl
@[simp] theorem State.setStack_calldata (st : List Word) (s : State) : (s.setStack st).calldata = s.calldata := rfl
@[simp] theorem State.setStack_env (st : List Word) (s : State) : (s.setStack st).env = s.env := rfl
@[simp] theorem State.setStack_halt (st : List Word) (s : State) : (s.setStack st).halt = s.halt := rfl
@[simp] theorem State.setStack_fault (st : List Word) (s : State) : (s.setStack st).fault = s.fault := rfl
@[simp] theorem State.setStack_rd (st : List Word) (s : State) : (s.setStack st).rd = s.rd := rfl
@[simp] theorem State.setStack_jd (st : List Word) (s : State) : (s.setStack st).jd = s.jd := rfl
@[simp] theorem State.setStack_refused (st : List Word) (s : State) : (s.setStack st).refused = s.refused := rfl
@[simp] theorem State.setStack_params (st : List Word) (s : State) : (s.setStack st).params = s.params := rfl

/-! ### setMem -/

@[simp] theorem State.setMem_stack (m : Memory) (s : State) : (s.setMem m).stack = s.stack := rfl
@[simp] theorem State.setMem_pc (m : Memory) (s : State) : (s.setMem m).pc = s.pc := rfl
@[simp] theorem State.setMem_mem (m : Memory) (s : State) : (s.setMem m).mem = m := rfl
@[simp] theorem State.setMem_code (m : Memory) (s : State) : (s.setMem m).code = s.code := rfl
@[simp] theorem State.setMem_calldata (m : Memory) (s : State) : (s.setMem m).calldata = s.calldata := rfl
@[simp] theorem State.setMem_env (m : Memory) (s : State) : (s.setMem m).env = s.env := rfl
@[simp] theorem State.setMem_halt (m : Memory) (s : State) : (s.setMem m).halt = s.halt := rfl
@[simp] theorem State.setMem_fault (m : Memory) (s : State) : (s.setMem m).fault = s.fault := rfl
@[simp] theorem State.setMem_rd (m : Memory) (s : State) : (s.setMem m).rd = s.rd := rfl
@[simp] theorem State.setMem_jd (m : Memory) (s : State) : (s.setMem m).jd = s.jd := rfl
@[simp] theorem State.setMem_refused (m : Memory) (s : State) : (s.setMem m).refused = s.refused := rfl
@[simp] theorem State.setMem_params (m : Memory) (s : State) : (s.setMem m).params = s.params := rfl

/-! ### setPc -/

@[simp] theorem State.setPc_stack (t : Nat) (s : State) : (s.setPc t).stack = s.stack := rfl
@[simp] theorem State.setPc_pc (t : Nat) (s : State) : (s.setPc t).pc = t := rfl
@[simp] theorem State.setPc_mem (t : Nat) (s : State) : (s.setPc t).mem = s.mem := rfl
@[simp] theorem State.setPc_code (t : Nat) (s : State) : (s.setPc t).code = s.code := rfl
@[simp] theorem State.setPc_calldata (t : Nat) (s : State) : (s.setPc t).calldata = s.calldata := rfl
@[simp] theorem State.setPc_env (t : Nat) (s : State) : (s.setPc t).env = s.env := rfl
@[simp] theorem State.setPc_halt (t : Nat) (s : State) : (s.setPc t).halt = s.halt := rfl
@[simp] theorem State.setPc_fault (t : Nat) (s : State) : (s.setPc t).fault = s.fault := rfl
@[simp] theorem State.setPc_rd (t : Nat) (s : State) : (s.setPc t).rd = s.rd := rfl
@[simp] theorem State.setPc_jd (t : Nat) (s : State) : (s.setPc t).jd = s.jd := rfl
@[simp] theorem State.setPc_refused (t : Nat) (s : State) : (s.setPc t).refused = s.refused := rfl
@[simp] theorem State.setPc_params (t : Nat) (s : State) : (s.setPc t).params = s.params := rfl

/-! ### advance -/

@[simp] theorem State.advance_stack (n : Nat) (s : State) : (s.advance n).stack = s.stack := rfl
@[simp] theorem State.advance_pc (n : Nat) (s : State) : (s.advance n).pc = s.pc + n := rfl
@[simp] theorem State.advance_mem (n : Nat) (s : State) : (s.advance n).mem = s.mem := rfl
@[simp] theorem State.advance_code (n : Nat) (s : State) : (s.advance n).code = s.code := rfl
@[simp] theorem State.advance_calldata (n : Nat) (s : State) : (s.advance n).calldata = s.calldata := rfl
@[simp] theorem State.advance_env (n : Nat) (s : State) : (s.advance n).env = s.env := rfl
@[simp] theorem State.advance_halt (n : Nat) (s : State) : (s.advance n).halt = s.halt := rfl
@[simp] theorem State.advance_fault (n : Nat) (s : State) : (s.advance n).fault = s.fault := rfl
@[simp] theorem State.advance_rd (n : Nat) (s : State) : (s.advance n).rd = s.rd := rfl
@[simp] theorem State.advance_jd (n : Nat) (s : State) : (s.advance n).jd = s.jd := rfl
@[simp] theorem State.advance_refused (n : Nat) (s : State) : (s.advance n).refused = s.refused := rfl
@[simp] theorem State.advance_params (n : Nat) (s : State) : (s.advance n).params = s.params := rfl

/-! ### raise -/

@[simp] theorem State.raise_stack (k : FaultKind) (s : State) : (s.raise k).stack = s.stack := rfl
@[simp] theorem State.raise_pc (k : FaultKind) (s : State) : (s.raise k).pc = s.pc := rfl
@[simp] theorem State.raise_mem (k : FaultKind) (s : State) : (s.raise k).mem = s.mem := rfl
@[simp] theorem State.raise_code (k : FaultKind) (s : State) : (s.raise k).code = s.code := rfl
@[simp] theorem State.raise_calldata (k : FaultKind) (s : State) : (s.raise k).calldata = s.calldata := rfl
@[simp] theorem State.raise_env (k : FaultKind) (s : State) : (s.raise k).env = s.env := rfl
@[simp] theorem State.raise_halt (k : FaultKind) (s : State) : (s.raise k).halt = .invalid := rfl
@[simp] theorem State.raise_fault (k : FaultKind) (s : State) : (s.raise k).fault = k := rfl
@[simp] theorem State.raise_rd (k : FaultKind) (s : State) : (s.raise k).rd = [] := rfl
@[simp] theorem State.raise_jd (k : FaultKind) (s : State) : (s.raise k).jd = s.jd := rfl
@[simp] theorem State.raise_refused (k : FaultKind) (s : State) : (s.raise k).refused = s.refused := rfl
@[simp] theorem State.raise_params (k : FaultKind) (s : State) : (s.raise k).params = s.params := rfl

/-! ### haltWith -/

@[simp] theorem State.haltWith_stack (r : HaltReason) (data : List Byte) (s : State) : (s.haltWith r data).stack = s.stack := rfl
@[simp] theorem State.haltWith_pc (r : HaltReason) (data : List Byte) (s : State) : (s.haltWith r data).pc = s.pc := rfl
@[simp] theorem State.haltWith_mem (r : HaltReason) (data : List Byte) (s : State) : (s.haltWith r data).mem = s.mem := rfl
@[simp] theorem State.haltWith_code (r : HaltReason) (data : List Byte) (s : State) : (s.haltWith r data).code = s.code := rfl
@[simp] theorem State.haltWith_calldata (r : HaltReason) (data : List Byte) (s : State) : (s.haltWith r data).calldata = s.calldata := rfl
@[simp] theorem State.haltWith_env (r : HaltReason) (data : List Byte) (s : State) : (s.haltWith r data).env = s.env := rfl
@[simp] theorem State.haltWith_halt (r : HaltReason) (data : List Byte) (s : State) : (s.haltWith r data).halt = r := rfl
@[simp] theorem State.haltWith_fault (r : HaltReason) (data : List Byte) (s : State) : (s.haltWith r data).fault = s.fault := rfl
@[simp] theorem State.haltWith_rd (r : HaltReason) (data : List Byte) (s : State) : (s.haltWith r data).rd = data := rfl
@[simp] theorem State.haltWith_jd (r : HaltReason) (data : List Byte) (s : State) : (s.haltWith r data).jd = s.jd := rfl
@[simp] theorem State.haltWith_refused (r : HaltReason) (data : List Byte) (s : State) : (s.haltWith r data).refused = s.refused := rfl
@[simp] theorem State.haltWith_params (r : HaltReason) (data : List Byte) (s : State) : (s.haltWith r data).params = s.params := rfl

/-! ### refuse -/

@[simp] theorem State.refuse_stack (s : State) : s.refuse.stack = s.stack := rfl
@[simp] theorem State.refuse_pc (s : State) : s.refuse.pc = s.pc := rfl
@[simp] theorem State.refuse_mem (s : State) : s.refuse.mem = s.mem := rfl
@[simp] theorem State.refuse_code (s : State) : s.refuse.code = s.code := rfl
@[simp] theorem State.refuse_calldata (s : State) : s.refuse.calldata = s.calldata := rfl
@[simp] theorem State.refuse_env (s : State) : s.refuse.env = s.env := rfl
@[simp] theorem State.refuse_halt (s : State) : s.refuse.halt = s.halt := rfl
@[simp] theorem State.refuse_fault (s : State) : s.refuse.fault = s.fault := rfl
@[simp] theorem State.refuse_rd (s : State) : s.refuse.rd = s.rd := rfl
@[simp] theorem State.refuse_jd (s : State) : s.refuse.jd = s.jd := rfl
@[simp] theorem State.refuse_refused (s : State) : s.refuse.refused = true := rfl
@[simp] theorem State.refuse_params (s : State) : s.refuse.params = s.params := rfl

end Sys2Proof.Machine
end

