-- ==== Sys2Proof/Laws/Memory.lean ====
section
/-! SUPPORT. Memory: a read after a write, and that every memory operation keeps the canonical form. -/

namespace Sys2Proof.Machine

/-! ### Cells -/

/-- A lower start is a weaker demand. -/
theorem cellsWf_lower {len lo lo' : Nat} {cs : List Host.Cell} (hle : lo' ≤ lo) (h : cellsWf len lo cs = true) :
    cellsWf len lo' cs = true := by
  cases cs with
  | nil => rfl
  | cons c rest =>
    simp only [cellsWf, Bool.and_eq_true, decide_eq_true_eq] at h ⊢
    exact ⟨⟨⟨by omega, h.1.1.2⟩, h.1.2⟩, h.2⟩

/-- A longer memory is a weaker demand. -/
theorem cellsWf_longer {len len' lo : Nat} {cs : List Host.Cell} (hle : len ≤ len') (h : cellsWf len lo cs = true) :
    cellsWf len' lo cs = true := by
  induction cs generalizing lo with
  | nil => rfl
  | cons c rest ih =>
    simp only [cellsWf, Bool.and_eq_true, decide_eq_true_eq] at h ⊢
    exact ⟨⟨⟨h.1.1.1, by omega⟩, h.1.2⟩, ih h.2⟩

/-- Below the start of the cells every address reads 0x00. -/
theorem cellAt_below {len lo a : Nat} {cs : List Host.Cell} (h : cellsWf len lo cs = true) (ha : a < lo) :
    cellAt a cs = 0#8 := by
  induction cs generalizing lo with
  | nil => rfl
  | cons c rest ih =>
    simp only [cellsWf, Bool.and_eq_true, decide_eq_true_eq] at h
    have hne : ¬ c.1 = a := by omega
    simp only [cellAt, hne, if_false]
    exact ih h.2 (by omega)

/-- At and past the length every address reads 0x00. -/
theorem cellAt_past {len lo a : Nat} {cs : List Host.Cell} (h : cellsWf len lo cs = true) (ha : len ≤ a) :
    cellAt a cs = 0#8 := by
  induction cs generalizing lo with
  | nil => rfl
  | cons c rest ih =>
    simp only [cellsWf, Bool.and_eq_true, decide_eq_true_eq] at h
    have hne : ¬ c.1 = a := by omega
    simp only [cellAt, hne, if_false]
    exact ih h.2

/-- A read after a write. -/
theorem cellAt_setCell {len lo : Nat} {cs : List Host.Cell} (h : cellsWf len lo cs = true) (a x : Nat) (b : Byte) :
    cellAt x (setCell a b cs) = if x = a then b else cellAt x cs := by
  induction cs generalizing lo with
  | nil =>
    by_cases hb : b = 0#8
    · simp [setCell, cellAt, hb]
    · by_cases hx : x = a
      · simp [setCell, cellAt, hb, hx]
      · simp [setCell, cellAt, hb, hx, Ne.symm hx]
  | cons cell rest ih =>
    obtain ⟨k, c⟩ := cell
    have hrest := h
    simp only [cellsWf, Bool.and_eq_true, decide_eq_true_eq] at hrest
    obtain ⟨⟨⟨hlo, hlen⟩, hc⟩, hrest⟩ := hrest
    have habove : ∀ y, y ≤ k → cellAt y rest = 0#8 := fun y hy => cellAt_below hrest (by omega)
    rcases Nat.lt_trichotomy k a with hk | hk | hk
    · by_cases hx : k = x
      · subst hx
        simp [setCell, cellAt, hk, Nat.ne_of_lt hk]
      · simp [setCell, cellAt, hk, hx, ih hrest]
    · subst hk
      by_cases hb : b = 0#8 <;> by_cases hx : x = k
      · simp [setCell, hb, hx, habove]
      · simp [setCell, cellAt, hb, hx, Ne.symm hx]
      · simp [setCell, cellAt, hb, hx]
      · simp [setCell, cellAt, hb, hx, Ne.symm hx]
    · have h1 : ¬ k < a := by omega
      have h2 : ¬ k = a := by omega
      by_cases hb : b = 0#8 <;> by_cases hx : x = a
      · simp [setCell, cellAt, hb, hx, h1, h2, habove a (by omega)]
      · simp [setCell, hb, hx, h1, h2]
      · simp [setCell, cellAt, hb, hx, h1, h2]
      · simp [setCell, cellAt, hb, hx, h1, h2, Ne.symm hx]

/-- A write keeps the canonical form. -/
theorem cellsWf_setCell {len lo : Nat} {cs : List Host.Cell} (h : cellsWf len lo cs = true) {a : Nat} (b : Byte)
    (hlo : lo ≤ a) (ha : a < len) : cellsWf len lo (setCell a b cs) = true := by
  induction cs generalizing lo with
  | nil => by_cases hb : b = 0#8 <;> simp [setCell, cellsWf, hb, hlo, ha]
  | cons cell rest ih =>
    obtain ⟨k, c⟩ := cell
    have hrest := h
    simp only [cellsWf, Bool.and_eq_true, decide_eq_true_eq] at hrest
    obtain ⟨⟨⟨hlo', hlen⟩, hc⟩, hrest⟩ := hrest
    rcases Nat.lt_trichotomy k a with hk | hk | hk
    · simp [setCell, cellsWf, hk, hlo', hlen, hc, ih hrest (by omega)]
    · subst hk
      by_cases hb : b = 0#8
      · simp [setCell, hb, cellsWf_lower (show lo ≤ k + 1 by omega) hrest]
      · simp [setCell, cellsWf, hb, hlo, ha, hrest]
    · have h1 : ¬ k < a := by omega
      have h2 : ¬ k = a := by omega
      have h3 : a + 1 ≤ k := hk
      by_cases hb : b = 0#8
      · simp [setCell, hb, h1, h2, h]
      · simp [setCell, cellsWf, hb, h1, h2, h3, hlo, ha, hlen, hc, hrest]

/-! ### Memory -/

theorem Memory.wf_iff (m : Memory) : m.wf = true ↔ m.len % 32 = 0 ∧ cellsWf m.len 0 m.cells = true := by
  simp [Memory.wf]

theorem Memory.empty_wf : Memory.empty.wf = true := rfl

@[simp] theorem Memory.storeByte_len (m : Memory) (a : Nat) (b : Byte) : (m.storeByte a b).len = m.len := rfl

@[simp] theorem Memory.storeBytes_len (m : Memory) (off : Nat) (bs : List Byte) :
    (m.storeBytes off bs).len = m.len := by
  induction bs generalizing m off with
  | nil => rfl
  | cons b bs ih => simp [Memory.storeBytes, ih]

theorem Memory.storeByte_wf {m : Memory} (h : m.wf = true) {a : Nat} (b : Byte) (ha : a < m.len) :
    (m.storeByte a b).wf = true := by
  rw [Memory.wf_iff] at h ⊢
  exact ⟨h.1, cellsWf_setCell h.2 b (Nat.zero_le _) ha⟩

theorem Memory.storeByte_readByte {m : Memory} (h : m.wf = true) (a x : Nat) (b : Byte) :
    (m.storeByte a b).readByte x = if x = a then b else m.readByte x :=
  cellAt_setCell ((Memory.wf_iff m).1 h).2 a x b

theorem Memory.storeBytes_wf {m : Memory} (h : m.wf = true) {off : Nat} (bs : List Byte)
    (hend : off + bs.length ≤ m.len) : (m.storeBytes off bs).wf = true := by
  induction bs generalizing m off with
  | nil => exact h
  | cons b bs ih =>
    simp only [List.length_cons] at hend
    exact ih (Memory.storeByte_wf h b (by omega)) (by simp; omega)

/-- A read after a write of several bytes: inside the range the byte written, outside it the byte before. -/
theorem Memory.storeBytes_readByte {m : Memory} (h : m.wf = true) {off : Nat} (bs : List Byte)
    (hend : off + bs.length ≤ m.len) (x : Nat) :
    (m.storeBytes off bs).readByte x
      = if off ≤ x ∧ x < off + bs.length then bs.getD (x - off) 0#8 else m.readByte x := by
  induction bs generalizing m off with
  | nil =>
    have : ¬ (off ≤ x ∧ x < off + 0) := by omega
    simp only [List.length_nil, this, if_false]
    rfl
  | cons b bs ih =>
    simp only [List.length_cons] at hend
    rw [Memory.storeBytes, ih (Memory.storeByte_wf h b (by omega)) (by simp; omega),
      Memory.storeByte_readByte h]
    simp only [List.length_cons]
    by_cases hx : x = off
    · subst hx
      rw [if_neg (by omega), if_pos rfl, if_pos (by omega)]
      simp
    · by_cases hin : off + 1 ≤ x ∧ x < off + 1 + bs.length
      · rw [if_pos hin, if_pos (by omega)]
        have : x - off = (x - (off + 1)) + 1 := by omega
        rw [this, List.getD_cons_succ]
      · rw [if_neg hin, if_neg hx, if_neg (by omega)]

theorem Memory.readByte_past {m : Memory} (h : m.wf = true) {a : Nat} (ha : m.len ≤ a) : m.readByte a = 0#8 :=
  cellAt_past ((Memory.wf_iff m).1 h).2 ha

/-! ### Expansion -/

theorem ceil32_mod (x : Nat) : ceil32 x % 32 = 0 := by
  unfold ceil32
  omega

theorem le_ceil32 (x : Nat) : x ≤ ceil32 x := by
  unfold ceil32
  omega

theorem ceil32_le {x c : Nat} (hx : x ≤ c) (hc : c % 32 = 0) : ceil32 x ≤ c := by
  unfold ceil32
  omega

@[simp] theorem Memory.grow_cells (m : Memory) (e : Nat) : (m.grow e).cells = m.cells := by
  unfold Memory.grow
  split <;> rfl

@[simp] theorem Memory.grow_readByte (m : Memory) (e a : Nat) : (m.grow e).readByte a = m.readByte a := by
  simp [Memory.readByte]

theorem Memory.grow_len (m : Memory) (e : Nat) :
    (m.grow e).len = if m.len < e then ceil32 e else m.len := by
  unfold Memory.grow
  split <;> rfl

theorem Memory.le_grow_len (m : Memory) (e : Nat) : m.len ≤ (m.grow e).len := by
  rw [Memory.grow_len]
  have := le_ceil32 e
  split <;> omega

theorem Memory.end_le_grow_len (m : Memory) (e : Nat) : e ≤ (m.grow e).len := by
  rw [Memory.grow_len]
  have := le_ceil32 e
  split <;> omega

theorem Memory.grow_wf {m : Memory} (h : m.wf = true) (e : Nat) : (m.grow e).wf = true := by
  have hle := Memory.le_grow_len m e
  rw [Memory.wf_iff] at h ⊢
  refine ⟨?_, ?_⟩
  · rw [Memory.grow_len]
    split
    · exact ceil32_mod e
    · exact h.1
  · rw [Memory.grow_cells]
    exact cellsWf_longer hle h.2

/-- All that `expand` can answer (R55, R56). -/
theorem Memory.expand_cases (p : Params) (off size : Nat) (m : Memory) :
    (size = 0 ∧ p.zeroSizeExpands = false ∧ m.expand p off size = some m) ∨
    (¬ (size = 0 ∧ p.zeroSizeExpands = false) ∧ p.memCeiling < off + size ∧ m.expand p off size = none) ∨
    (¬ (size = 0 ∧ p.zeroSizeExpands = false) ∧ off + size ≤ p.memCeiling ∧
      m.expand p off size = some (m.grow (off + size))) := by
  unfold Memory.expand
  split_ifs with h1 h2
  · exact .inl ⟨h1.1, h1.2, rfl⟩
  · exact .inr (.inl ⟨h1, h2, rfl⟩)
  · exact .inr (.inr ⟨h1, Nat.le_of_not_lt h2, rfl⟩)

/-- An access of at least one byte below the ceiling expands. -/
theorem Memory.expand_of_le {p : Params} {off size : Nat} (m : Memory) (hs : 0 < size)
    (h : off + size ≤ p.memCeiling) : m.expand p off size = some (m.grow (off + size)) := by
  unfold Memory.expand
  rw [if_neg (by omega), if_neg (by omega)]

/-- What an expansion that succeeds gives: the same bytes, a canonical memory, no shorter, holding the range, and
within the ceiling. -/
theorem Memory.expand_some {p : Params} {off size : Nat} {m m' : Memory} (h : m.expand p off size = some m') :
    (∀ a, m'.readByte a = m.readByte a) ∧ m.len ≤ m'.len ∧ (m.wf = true → m'.wf = true) ∧
      (0 < size → off + size ≤ m'.len) ∧
      (p.memCeiling % 32 = 0 → m.len ≤ p.memCeiling → m'.len ≤ p.memCeiling) := by
  obtain ⟨hs, -, he⟩ | ⟨-, -, he⟩ | ⟨-, hle, he⟩ := Memory.expand_cases p off size m <;> rw [he] at h
  · cases h
    exact ⟨fun _ => rfl, Nat.le_refl _, id, by omega, fun _ => id⟩
  · cases h
  · cases h
    refine ⟨fun a => Memory.grow_readByte m _ a, Memory.le_grow_len m _, fun hw => Memory.grow_wf hw _,
      fun _ => Memory.end_le_grow_len m _, fun hc hm => ?_⟩
    rw [Memory.grow_len]
    split
    · exact ceil32_le hle hc
    · exact hm

@[simp] theorem Memory.bytes_length (m : Memory) (off size : Nat) : (m.bytes off size).length = size := by
  simp [Memory.bytes]

theorem Memory.bytes_congr {m m' : Memory} (h : ∀ a, m'.readByte a = m.readByte a) (off size : Nat) :
    m'.bytes off size = m.bytes off size := by
  simp [Memory.bytes, h]

end Sys2Proof.Machine
end

