-- ==== Sys2Proof/Laws/Exec.lean ====
section
/-! SUPPORT. What the shared operations can do, each said once, and from them what any instruction can do
(`exec_answers`). Proofs about instructions cite these instead of unfolding the operations. -/

namespace Sys2Proof.Machine

/-! ### The shared operations -/

theorem need1_of_cons {s : State} {a : Word} {rest : List Word} (h : s.stack = a :: rest)
    (k : Word → List Word → Result) : need1 s k = k a rest := by
  simp [need1, h]

theorem need2_of_cons {s : State} {a b : Word} {rest : List Word} (h : s.stack = a :: b :: rest)
    (k : Word → Word → List Word → Result) : need2 s k = k a b rest := by
  simp [need2, h]

theorem need1_cases (s : State) (k : Word → List Word → Result) :
    (s.stack.length < 1 ∧ need1 s k = .next (s.raise .stackUnderflow)) ∨
      ∃ a rest, s.stack = a :: rest ∧ need1 s k = k a rest := by
  cases h : s.stack with
  | nil => exact .inl ⟨by simp, by simp [need1, h]⟩
  | cons a rest => exact .inr ⟨a, rest, rfl, need1_of_cons h k⟩

theorem need2_cases (s : State) (k : Word → Word → List Word → Result) :
    (s.stack.length < 2 ∧ need2 s k = .next (s.raise .stackUnderflow)) ∨
      ∃ a b rest, s.stack = a :: b :: rest ∧ need2 s k = k a b rest := by
  match h : s.stack with
  | [] => exact .inl ⟨by simp, by simp [need2, h]⟩
  | [_] => exact .inl ⟨by simp, by simp [need2, h]⟩
  | a :: b :: rest => exact .inr ⟨a, b, rest, rfl, need2_of_cons h k⟩

theorem need1_of_short {s : State} (h : s.stack.length < 1) (k : Word → List Word → Result) :
    need1 s k = .next (s.raise .stackUnderflow) := by
  obtain ⟨-, h'⟩ | ⟨a, rest, hs, -⟩ := need1_cases s k
  · exact h'
  · simp [hs] at h

theorem need2_of_short {s : State} (h : s.stack.length < 2) (k : Word → Word → List Word → Result) :
    need2 s k = .next (s.raise .stackUnderflow) := by
  obtain ⟨-, h'⟩ | ⟨a, b, rest, hs, -⟩ := need2_cases s k
  · exact h'
  · simp [hs] at h

theorem pushWord_of_room {s : State} (h : s.stack.length < 1024) (v : Word) (len : Nat) :
    pushWord v len s = .next ((s.setStack (v :: s.stack)).advance len) := by
  have : ¬ stackCap ≤ s.stack.length := by unfold stackCap; omega
  simp [pushWord, this]

theorem pushWord_of_full {s : State} (h : 1024 ≤ s.stack.length) (v : Word) (len : Nat) :
    pushWord v len s = .next (s.raise .stackOverflow) := by
  have : stackCap ≤ s.stack.length := h
  simp [pushWord, this]

theorem unary_of_cons {s : State} {a : Word} {rest : List Word} (h : s.stack = a :: rest) (f : Word → Word) :
    unary f s = .next ((s.setStack (f a :: rest)).advance 1) :=
  need1_of_cons h _

theorem binary_of_cons {s : State} {a b : Word} {rest : List Word} (h : s.stack = a :: b :: rest)
    (f : Word → Word → Word) : binary f s = .next ((s.setStack (f a b :: rest)).advance 1) :=
  need2_of_cons h _

theorem dup_of_some {s : State} {n : Nat} {v : Word} (h : s.stack[n - 1]? = some v) :
    dup n s = pushWord v 1 s := by
  simp [dup, h]

theorem dup_of_short {s : State} {n : Nat} (hn : 0 < n) (h : s.stack.length < n) :
    dup n s = .next (s.raise .stackUnderflow) := by
  have : s.stack[n - 1]? = none := List.getElem?_eq_none (by omega)
  simp [dup, this]

theorem swap_of_some {s : State} {n : Nat} {t u : Word} {rest : List Word} (h : s.stack = t :: rest)
    (hu : rest[n - 1]? = some u) :
    swap n s = .next ((s.setStack (u :: rest.set (n - 1) t)).advance 1) := by
  simp [swap, need1_of_cons h, hu]

theorem swap_of_short {s : State} {n : Nat} (hn : 0 < n) (h : s.stack.length < n + 1) :
    swap n s = .next (s.raise .stackUnderflow) := by
  obtain ⟨-, h'⟩ | ⟨t, rest, hs, h'⟩ := need1_cases s _
  · exact h'
  · rw [hs] at h
    have : rest[n - 1]? = none := List.getElem?_eq_none (by simp at h; omega)
    rw [swap, h']
    simp [this]

theorem readRange_of_some {off size : Nat} {s : State} {m : Memory} (h : s.mem.expand s.params off size = some m)
    (k : List Byte → State → Result) : readRange off size s k = k (m.bytes off size) (s.setMem m) := by
  simp [readRange, h]

theorem readRange_of_none {off size : Nat} {s : State} (h : s.mem.expand s.params off size = none)
    (k : List Byte → State → Result) : readRange off size s k = .next (s.raise .memoryOutOfBounds) := by
  simp [readRange, h]

theorem writeRange_of_some {off : Nat} {bs : List Byte} {s : State} {m : Memory}
    (h : s.mem.expand s.params off bs.length = some m) (k : State → Result) :
    writeRange off bs s k = k (s.setMem (m.storeBytes off bs)) := by
  simp [writeRange, h]

theorem writeRange_of_none {off : Nat} {bs : List Byte} {s : State}
    (h : s.mem.expand s.params off bs.length = none) (k : State → Result) :
    writeRange off bs s k = .next (s.raise .memoryOutOfBounds) := by
  simp [writeRange, h]

/-! ### What an instruction can do -/

/-- Why an instruction raises a fault (R290, R293). -/
inductive Cause (i : Instr) (s : State) : FaultKind → Prop where
  | underflow (h : s.stack.length < i.minDepth) : Cause i s .stackUnderflow
  | overflow (hi : i.growsStack = true) (h : 1024 ≤ s.stack.length) : Cause i s .stackOverflow
  | target {d : Word} (hj : Jumps i s d) (h : d.toNat ∉ s.jd) : Cause i s .invalidJumpDestination
  | outOfBounds {off size : Nat} (ha : Accesses i s off size) (h : ¬ InBounds s.params off size) :
      Cause i s .memoryOutOfBounds
  | opcode (h : i = .invalid ∨ i.opClass = .unassigned ∨
      i.opClass = .unlisted ∧ s.params.unlistedClass = .invalidOpcode) : Cause i s .invalidOpcode

/-- A memory the instruction's access leaves: an expansion, and for MSTORE and MSTORE8 a store over the range. -/
inductive Accessed (i : Instr) (s : State) : Memory → Prop where
  | read {off size : Nat} {m : Memory} (ha : Accesses i s off size) (h : s.mem.expand s.params off size = some m) :
      Accessed i s m
  | write {off : Nat} {bs : List Byte} {m : Memory} (hi : i = .mstore ∨ i = .mstore8)
      (ha : Accesses i s off bs.length) (hb : 0 < bs.length) (h : s.mem.expand s.params off bs.length = some m) :
      Accessed i s (m.storeBytes off bs)

/-- Every next state an instruction can answer. -/
inductive Effect (i : Instr) (s : State) : State → Prop where
  /-- A fault is entered. -/
  | raised {k : FaultKind} (h : Cause i s k) : Effect i s (s.raise k)
  /-- The refusal mark is set. -/
  | refused (hi : i.opClass = .unlisted) (h : s.params.unlistedClass = .refused) : Effect i s s.refuse
  /-- STOP. -/
  | stopped (hi : i = .stop) : Effect i s (s.haltWith .stopped [])
  /-- RETURN or REVERT. -/
  | ended {r : HaltReason} {off size : Nat} {rest : List Word} {m : Memory}
      (hi : i = .ret ∧ r = .returned ∨ i = .revert ∧ r = .reverted) (ha : Accesses i s off size)
      (hm : s.mem.expand s.params off size = some m) (hs : rest.length ≤ s.stack.length) :
      Effect i s (((s.setMem m).setStack rest).haltWith r (m.bytes off size))
  /-- The stack changes and `pc` passes the instruction: any but JUMP, and JUMPI only when it is not taken. -/
  | stack {st : List Word} (hj : i ≠ .jump ∧ (i = .jumpi → s.stack[1]? = some 0))
      (hs : st.length ≤ s.stack.length ∨
        i.growsStack = true ∧ st.length = s.stack.length + 1 ∧ s.stack.length < 1024) :
      Effect i s ((s.setStack st).advance i.length)
  /-- Memory is accessed, the stack changes and `pc` passes the instruction. -/
  | memory {st : List Word} {m : Memory} (hm : Accessed i s m) (hs : st.length ≤ s.stack.length) :
      Effect i s (((s.setMem m).setStack st).advance i.length)
  /-- JUMP or a taken JUMPI: `pc` is the target popped. -/
  | jumped {d : Word} {rest : List Word} (hj : Jumps i s d) (ht : d.toNat ∈ s.jd)
      (hs : rest.length ≤ s.stack.length) : Effect i s ((s.setStack rest).setPc d.toNat)

/-- The result is a next state that is one of the effects. -/
def Answers (i : Instr) (s : State) (r : Result) : Prop :=
  ∃ t, r = .next t ∧ Effect i s t

/-- Neither JUMP nor JUMPI. -/
def isPlain : Instr → Bool
  | .jump | .jumpi => false
  | _ => true

/-- The stack effect of an instruction that is no jump. -/
theorem effect_stack {i : Instr} {s : State} {st : List Word} (hp : isPlain i = true)
    (hs : st.length ≤ s.stack.length ∨
      i.growsStack = true ∧ st.length = s.stack.length + 1 ∧ s.stack.length < 1024) :
    Effect i s ((s.setStack st).advance i.length) :=
  .stack ⟨(by rintro rfl; cases hp), (by rintro rfl; cases hp)⟩ hs

/-- A memory access answers MemoryOutOfBounds exactly when it is not in bounds. -/
theorem not_inBounds_of_none {p : Params} {off size : Nat} {m : Memory} (h : m.expand p off size = none) :
    ¬ InBounds p off size := by
  obtain ⟨-, -, he⟩ | ⟨h1, h2, -⟩ | ⟨-, -, he⟩ := Memory.expand_cases p off size m
  · rw [h] at he
    cases he
  · exact fun hc => hc.elim h1 (by omega)
  · rw [h] at he
    cases he

theorem answers_unary {i : Instr} (s : State) (f : Word → Word) (hd : i.minDepth = 1) (hl : i.length = 1)
    (hp : isPlain i = true) : Answers i s (unary f s) := by
  obtain ⟨h, h'⟩ | ⟨a, rest, hs, h'⟩ := need1_cases s _
  · exact ⟨_, h', .raised (.underflow (by omega))⟩
  · exact ⟨_, h', hl ▸ effect_stack hp (.inl (by simp [hs]))⟩

theorem answers_binary {i : Instr} (s : State) (f : Word → Word → Word) (hd : i.minDepth = 2) (hl : i.length = 1)
    (hp : isPlain i = true) : Answers i s (binary f s) := by
  obtain ⟨h, h'⟩ | ⟨a, b, rest, hs, h'⟩ := need2_cases s _
  · exact ⟨_, h', .raised (.underflow (by omega))⟩
  · exact ⟨_, h', hl ▸ effect_stack hp (.inl (by simp [hs]))⟩

theorem answers_pop {i : Instr} (s : State) (hd : i.minDepth = 1) (hl : i.length = 1) (hp : isPlain i = true) :
    Answers i s (execPop s) := by
  obtain ⟨h, h'⟩ | ⟨a, rest, hs, h'⟩ := need1_cases s _
  · exact ⟨_, h', .raised (.underflow (by omega))⟩
  · exact ⟨_, h', hl ▸ effect_stack hp (.inl (by simp [hs]))⟩

theorem answers_push {i : Instr} (s : State) (v : Word) {len : Nat} (hg : i.growsStack = true) (hl : i.length = len)
    (hp : isPlain i = true) : Answers i s (pushWord v len s) := by
  subst hl
  by_cases h : s.stack.length < 1024
  · exact ⟨_, pushWord_of_room h v _, effect_stack hp (.inr ⟨hg, by simp, h⟩)⟩
  · exact ⟨_, pushWord_of_full (by omega) v _, .raised (.overflow hg (by omega))⟩

theorem answers_dup {i : Instr} (s : State) {n : Nat} (hn : 0 < n) (hd : i.minDepth = n) (hg : i.growsStack = true)
    (hl : i.length = 1) (hp : isPlain i = true) : Answers i s (dup n s) := by
  by_cases h : s.stack.length < n
  · exact ⟨_, dup_of_short hn h, .raised (.underflow (by omega))⟩
  · have hv : s.stack[n - 1]? = some (s.stack[n - 1]'(by omega)) := List.getElem?_eq_getElem _
    rw [dup_of_some hv]
    exact answers_push s _ hg hl hp

theorem answers_swap {i : Instr} (s : State) {n : Nat} (hn : 0 < n) (hd : i.minDepth = n + 1) (hl : i.length = 1)
    (hp : isPlain i = true) : Answers i s (swap n s) := by
  by_cases h : s.stack.length < n + 1
  · exact ⟨_, swap_of_short hn h, .raised (.underflow (by omega))⟩
  · match hs : s.stack with
    | [] => simp [hs] at h
    | t :: rest =>
      have hlt : n - 1 < rest.length := by simp [hs] at h; omega
      have hu : rest[n - 1]? = some rest[n - 1] := List.getElem?_eq_getElem hlt
      have he : Effect i s ((s.setStack (rest[n - 1] :: rest.set (n - 1) t)).advance i.length) :=
        effect_stack hp (.inl (by simp [hs]))
      rw [hl] at he
      exact ⟨_, swap_of_some hs hu, he⟩

/-- The three reads of a popped range: MLOAD, SHA3, and RETURN with REVERT. -/
theorem answers_mload (s : State) : Answers .mload s (execMload s) := by
  obtain ⟨h, h'⟩ | ⟨off, rest, hs, h'⟩ := need1_cases s _
  · exact ⟨_, h', .raised (.underflow h)⟩
  · rw [execMload, h']
    cases hm : s.mem.expand s.params off.toNat 32 with
    | none => exact ⟨_, readRange_of_none hm _, .raised (.outOfBounds (.mload hs) (not_inBounds_of_none hm))⟩
    | some m => exact ⟨_, readRange_of_some hm _, .memory (i := .mload) (.read (.mload hs) hm) (by simp [hs])⟩

theorem answers_sha3 (s : State) : Answers .sha3 s (execSha3 s) := by
  obtain ⟨h, h'⟩ | ⟨off, size, rest, hs, h'⟩ := need2_cases s _
  · exact ⟨_, h', .raised (.underflow h)⟩
  · rw [execSha3, h']
    cases hm : s.mem.expand s.params off.toNat size.toNat with
    | none => exact ⟨_, readRange_of_none hm _, .raised (.outOfBounds (.sha3 hs) (not_inBounds_of_none hm))⟩
    | some m => exact ⟨_, readRange_of_some hm _, .memory (i := .sha3) (.read (.sha3 hs) hm) (by simp [hs])⟩

theorem answers_haltReading {i : Instr} {r : HaltReason} (s : State)
    (hi : i = .ret ∧ r = .returned ∨ i = .revert ∧ r = .reverted) : Answers i s (haltReading r s) := by
  obtain ⟨h, h'⟩ | ⟨off, size, rest, hs, h'⟩ := need2_cases s _
  · exact ⟨_, h', .raised (.underflow (by obtain ⟨rfl, -⟩ | ⟨rfl, -⟩ := hi <;> exact h))⟩
  · have ha : Accesses i s off.toNat size.toNat := by
      obtain ⟨rfl, -⟩ | ⟨rfl, -⟩ := hi
      · exact .ret hs
      · exact .revert hs
    rw [haltReading, h']
    cases hm : s.mem.expand s.params off.toNat size.toNat with
    | none => exact ⟨_, readRange_of_none hm _, .raised (.outOfBounds ha (not_inBounds_of_none hm))⟩
    | some m => exact ⟨_, readRange_of_some hm _, .ended hi ha hm (by simp [hs]; omega)⟩

theorem answers_mstore (s : State) : Answers .mstore s (execMstore s) := by
  obtain ⟨h, h'⟩ | ⟨off, v, rest, hs, h'⟩ := need2_cases s _
  · exact ⟨_, h', .raised (.underflow h)⟩
  · have ha : Accesses .mstore s off.toNat (bytesBe v.toNat 32).length := bytesBe_length v.toNat 32 ▸ .mstore hs
    rw [execMstore, h']
    cases hm : s.mem.expand s.params off.toNat (bytesBe v.toNat 32).length with
    | none => exact ⟨_, writeRange_of_none hm _, .raised (.outOfBounds ha (not_inBounds_of_none hm))⟩
    | some m =>
      exact ⟨_, writeRange_of_some hm _,
        .memory (i := .mstore) (.write (.inl rfl) ha (by simp) hm) (by simp [hs]; omega)⟩

theorem answers_mstore8 (s : State) : Answers .mstore8 s (execMstore8 s) := by
  obtain ⟨h, h'⟩ | ⟨off, v, rest, hs, h'⟩ := need2_cases s _
  · exact ⟨_, h', .raised (.underflow h)⟩
  · rw [execMstore8, h']
    cases hm : s.mem.expand s.params off.toNat [BitVec.ofNat 8 (v.toNat % 256)].length with
    | none => exact ⟨_, writeRange_of_none hm _, .raised (.outOfBounds (.mstore8 hs) (not_inBounds_of_none hm))⟩
    | some m =>
      exact ⟨_, writeRange_of_some hm _,
        .memory (i := .mstore8) (.write (.inr rfl) (.mstore8 hs) (by simp) hm) (by simp [hs]; omega)⟩

/-- The transfer of a jump that is taken. -/
theorem answers_jumpTo {i : Instr} {s : State} {d : Word} {rest : List Word} (hj : Jumps i s d)
    (hs : rest.length ≤ s.stack.length) : Answers i s (jumpTo d rest s) := by
  rw [jumpTo]
  split
  · exact ⟨_, rfl, .jumped hj ‹_› hs⟩
  · exact ⟨_, rfl, .raised (.target hj ‹_›)⟩

theorem answers_jump (s : State) : Answers .jump s (execJump s) := by
  obtain ⟨h, h'⟩ | ⟨d, rest, hs, h'⟩ := need1_cases s _
  · exact ⟨_, h', .raised (.underflow h)⟩
  · rw [execJump, h']
    exact answers_jumpTo (.jump hs) (by simp [hs])

theorem answers_jumpi (s : State) : Answers .jumpi s (execJumpi s) := by
  obtain ⟨h, h'⟩ | ⟨d, c, rest, hs, h'⟩ := need2_cases s _
  · exact ⟨_, h', .raised (.underflow h)⟩
  · rw [execJumpi, h']
    split
    · exact answers_jumpTo (.jumpi hs ‹_›) (by simp [hs]; omega)
    · rename_i hc
      exact ⟨_, rfl, .stack (i := .jumpi) ⟨nofun, fun _ => by simpa [hs] using hc⟩ (.inl (by simp [hs]; omega))⟩

theorem answers_invalidOpcode {i : Instr} (s : State) (hi : i = .invalid ∨ i.opClass = .unassigned) :
    Answers i s (invalidOpcode s) :=
  ⟨_, rfl, .raised (.opcode (hi.elim .inl fun h => .inr (.inl h)))⟩

theorem answers_unlisted {i : Instr} (s : State) (hi : i.opClass = .unlisted) : Answers i s (unlisted s) := by
  cases h : s.params.unlistedClass with
  | refused => exact ⟨_, by simp [unlisted, h], .refused hi h⟩
  | invalidOpcode =>
    exact ⟨s.raise .invalidOpcode, by simp [unlisted, h, invalidOpcode], .raised (.opcode (.inr (.inr ⟨hi, h⟩)))⟩

/-- What any instruction can do: it answers a next state, and that state is one of the effects. -/
theorem exec_answers (i : Instr) (s : State) : Answers i s (exec i s) := by
  cases i with
  | stop => exact ⟨_, rfl, .stopped rfl⟩
  | add => exact answers_binary s _ rfl rfl rfl
  | mul => exact answers_binary s _ rfl rfl rfl
  | sub => exact answers_binary s _ rfl rfl rfl
  | div => exact answers_binary s _ rfl rfl rfl
  | sdiv => exact answers_binary s _ rfl rfl rfl
  | mod => exact answers_binary s _ rfl rfl rfl
  | smod => exact answers_binary s _ rfl rfl rfl
  | addmod => exact answers_unlisted s rfl
  | mulmod => exact answers_unlisted s rfl
  | exp => exact answers_binary s _ rfl rfl rfl
  | signextend => exact answers_binary s _ rfl rfl rfl
  | unassigned0C => exact answers_invalidOpcode s (.inr rfl)
  | unassigned0D => exact answers_invalidOpcode s (.inr rfl)
  | unassigned0E => exact answers_invalidOpcode s (.inr rfl)
  | unassigned0F => exact answers_invalidOpcode s (.inr rfl)
  | lt => exact answers_binary s _ rfl rfl rfl
  | gt => exact answers_binary s _ rfl rfl rfl
  | slt => exact answers_binary s _ rfl rfl rfl
  | sgt => exact answers_binary s _ rfl rfl rfl
  | eq => exact answers_binary s _ rfl rfl rfl
  | iszero => exact answers_unary s _ rfl rfl rfl
  | and => exact answers_binary s _ rfl rfl rfl
  | or => exact answers_binary s _ rfl rfl rfl
  | xor => exact answers_binary s _ rfl rfl rfl
  | not => exact answers_unary s _ rfl rfl rfl
  | byte => exact answers_unlisted s rfl
  | shl => exact answers_binary s _ rfl rfl rfl
  | shr => exact answers_binary s _ rfl rfl rfl
  | sar => exact answers_binary s _ rfl rfl rfl
  | unassigned1E => exact answers_invalidOpcode s (.inr rfl)
  | unassigned1F => exact answers_invalidOpcode s (.inr rfl)
  | sha3 => exact answers_sha3 s
  | unassigned21 => exact answers_invalidOpcode s (.inr rfl)
  | unassigned22 => exact answers_invalidOpcode s (.inr rfl)
  | unassigned23 => exact answers_invalidOpcode s (.inr rfl)
  | unassigned24 => exact answers_invalidOpcode s (.inr rfl)
  | unassigned25 => exact answers_invalidOpcode s (.inr rfl)
  | unassigned26 => exact answers_invalidOpcode s (.inr rfl)
  | unassigned27 => exact answers_invalidOpcode s (.inr rfl)
  | unassigned28 => exact answers_invalidOpcode s (.inr rfl)
  | unassigned29 => exact answers_invalidOpcode s (.inr rfl)
  | unassigned2A => exact answers_invalidOpcode s (.inr rfl)
  | unassigned2B => exact answers_invalidOpcode s (.inr rfl)
  | unassigned2C => exact answers_invalidOpcode s (.inr rfl)
  | unassigned2D => exact answers_invalidOpcode s (.inr rfl)
  | unassigned2E => exact answers_invalidOpcode s (.inr rfl)
  | unassigned2F => exact answers_invalidOpcode s (.inr rfl)
  | address => exact answers_push s _ rfl rfl rfl
  | balance => exact answers_unary s _ rfl rfl rfl
  | origin => exact answers_push s _ rfl rfl rfl
  | caller => exact answers_push s _ rfl rfl rfl
  | callvalue => exact answers_push s _ rfl rfl rfl
  | calldataload => exact answers_unary s _ rfl rfl rfl
  | calldatasize => exact answers_push s _ rfl rfl rfl
  | calldatacopy => exact answers_unlisted s rfl
  | codesize => exact answers_unlisted s rfl
  | codecopy => exact answers_unlisted s rfl
  | gasprice => exact answers_unlisted s rfl
  | extcodesize => exact answers_unary s _ rfl rfl rfl
  | extcodecopy => exact answers_unlisted s rfl
  | returndatasize => exact answers_push s _ rfl rfl rfl
  | returndatacopy => exact answers_unlisted s rfl
  | extcodehash => exact answers_unlisted s rfl
  | blockhash => exact answers_unlisted s rfl
  | coinbase => exact answers_push s _ rfl rfl rfl
  | timestamp => exact answers_push s _ rfl rfl rfl
  | number => exact answers_push s _ rfl rfl rfl
  | prevrandao => exact answers_unlisted s rfl
  | gaslimit => exact answers_push s _ rfl rfl rfl
  | chainid => exact answers_push s _ rfl rfl rfl
  | selfbalance => exact answers_unlisted s rfl
  | basefee => exact answers_unlisted s rfl
  | blobhash => exact answers_unlisted s rfl
  | blobbasefee => exact answers_unlisted s rfl
  | unassigned4B => exact answers_invalidOpcode s (.inr rfl)
  | unassigned4C => exact answers_invalidOpcode s (.inr rfl)
  | unassigned4D => exact answers_invalidOpcode s (.inr rfl)
  | unassigned4E => exact answers_invalidOpcode s (.inr rfl)
  | unassigned4F => exact answers_invalidOpcode s (.inr rfl)
  | pop => exact answers_pop s rfl rfl rfl
  | mload => exact answers_mload s
  | mstore => exact answers_mstore s
  | mstore8 => exact answers_mstore8 s
  | sload => exact answers_unlisted s rfl
  | sstore => exact answers_unlisted s rfl
  | jump => exact answers_jump s
  | jumpi => exact answers_jumpi s
  | pc => exact answers_push s _ rfl rfl rfl
  | msize => exact answers_push s _ rfl rfl rfl
  | gas => exact answers_unlisted s rfl
  | jumpdest => exact ⟨_, rfl, effect_stack (i := .jumpdest) (st := s.stack) rfl (.inl (Nat.le_refl _))⟩
  | tload => exact answers_unlisted s rfl
  | tstore => exact answers_unlisted s rfl
  | mcopy => exact answers_unlisted s rfl
  | push0 => exact answers_unlisted s rfl
  | push1 v => exact answers_push s v rfl rfl rfl
  | push2 v => exact answers_push s v rfl rfl rfl
  | push3 v => exact answers_push s v rfl rfl rfl
  | push4 v => exact answers_push s v rfl rfl rfl
  | push5 v => exact answers_push s v rfl rfl rfl
  | push6 v => exact answers_push s v rfl rfl rfl
  | push7 v => exact answers_push s v rfl rfl rfl
  | push8 v => exact answers_push s v rfl rfl rfl
  | push9 v => exact answers_push s v rfl rfl rfl
  | push10 v => exact answers_push s v rfl rfl rfl
  | push11 v => exact answers_push s v rfl rfl rfl
  | push12 v => exact answers_push s v rfl rfl rfl
  | push13 v => exact answers_push s v rfl rfl rfl
  | push14 v => exact answers_push s v rfl rfl rfl
  | push15 v => exact answers_push s v rfl rfl rfl
  | push16 v => exact answers_push s v rfl rfl rfl
  | push17 v => exact answers_push s v rfl rfl rfl
  | push18 v => exact answers_push s v rfl rfl rfl
  | push19 v => exact answers_push s v rfl rfl rfl
  | push20 v => exact answers_push s v rfl rfl rfl
  | push21 v => exact answers_push s v rfl rfl rfl
  | push22 v => exact answers_push s v rfl rfl rfl
  | push23 v => exact answers_push s v rfl rfl rfl
  | push24 v => exact answers_push s v rfl rfl rfl
  | push25 v => exact answers_push s v rfl rfl rfl
  | push26 v => exact answers_push s v rfl rfl rfl
  | push27 v => exact answers_push s v rfl rfl rfl
  | push28 v => exact answers_push s v rfl rfl rfl
  | push29 v => exact answers_push s v rfl rfl rfl
  | push30 v => exact answers_push s v rfl rfl rfl
  | push31 v => exact answers_push s v rfl rfl rfl
  | push32 v => exact answers_push s v rfl rfl rfl
  | dup1 => exact answers_dup s (by decide) rfl rfl rfl rfl
  | dup2 => exact answers_dup s (by decide) rfl rfl rfl rfl
  | dup3 => exact answers_dup s (by decide) rfl rfl rfl rfl
  | dup4 => exact answers_dup s (by decide) rfl rfl rfl rfl
  | dup5 => exact answers_dup s (by decide) rfl rfl rfl rfl
  | dup6 => exact answers_dup s (by decide) rfl rfl rfl rfl
  | dup7 => exact answers_dup s (by decide) rfl rfl rfl rfl
  | dup8 => exact answers_dup s (by decide) rfl rfl rfl rfl
  | dup9 => exact answers_dup s (by decide) rfl rfl rfl rfl
  | dup10 => exact answers_dup s (by decide) rfl rfl rfl rfl
  | dup11 => exact answers_dup s (by decide) rfl rfl rfl rfl
  | dup12 => exact answers_dup s (by decide) rfl rfl rfl rfl
  | dup13 => exact answers_dup s (by decide) rfl rfl rfl rfl
  | dup14 => exact answers_dup s (by decide) rfl rfl rfl rfl
  | dup15 => exact answers_dup s (by decide) rfl rfl rfl rfl
  | dup16 => exact answers_dup s (by decide) rfl rfl rfl rfl
  | swap1 => exact answers_swap s (by decide) rfl rfl rfl
  | swap2 => exact answers_swap s (by decide) rfl rfl rfl
  | swap3 => exact answers_swap s (by decide) rfl rfl rfl
  | swap4 => exact answers_swap s (by decide) rfl rfl rfl
  | swap5 => exact answers_swap s (by decide) rfl rfl rfl
  | swap6 => exact answers_swap s (by decide) rfl rfl rfl
  | swap7 => exact answers_swap s (by decide) rfl rfl rfl
  | swap8 => exact answers_swap s (by decide) rfl rfl rfl
  | swap9 => exact answers_swap s (by decide) rfl rfl rfl
  | swap10 => exact answers_swap s (by decide) rfl rfl rfl
  | swap11 => exact answers_swap s (by decide) rfl rfl rfl
  | swap12 => exact answers_swap s (by decide) rfl rfl rfl
  | swap13 => exact answers_swap s (by decide) rfl rfl rfl
  | swap14 => exact answers_swap s (by decide) rfl rfl rfl
  | swap15 => exact answers_swap s (by decide) rfl rfl rfl
  | swap16 => exact answers_swap s (by decide) rfl rfl rfl
  | log0 => exact answers_unlisted s rfl
  | log1 => exact answers_unlisted s rfl
  | log2 => exact answers_unlisted s rfl
  | log3 => exact answers_unlisted s rfl
  | log4 => exact answers_unlisted s rfl
  | unassignedA5 => exact answers_invalidOpcode s (.inr rfl)
  | unassignedA6 => exact answers_invalidOpcode s (.inr rfl)
  | unassignedA7 => exact answers_invalidOpcode s (.inr rfl)
  | unassignedA8 => exact answers_invalidOpcode s (.inr rfl)
  | unassignedA9 => exact answers_invalidOpcode s (.inr rfl)
  | unassignedAA => exact answers_invalidOpcode s (.inr rfl)
  | unassignedAB => exact answers_invalidOpcode s (.inr rfl)
  | unassignedAC => exact answers_invalidOpcode s (.inr rfl)
  | unassignedAD => exact answers_invalidOpcode s (.inr rfl)
  | unassignedAE => exact answers_invalidOpcode s (.inr rfl)
  | unassignedAF => exact answers_invalidOpcode s (.inr rfl)
  | unassignedB0 => exact answers_invalidOpcode s (.inr rfl)
  | unassignedB1 => exact answers_invalidOpcode s (.inr rfl)
  | unassignedB2 => exact answers_invalidOpcode s (.inr rfl)
  | unassignedB3 => exact answers_invalidOpcode s (.inr rfl)
  | unassignedB4 => exact answers_invalidOpcode s (.inr rfl)
  | unassignedB5 => exact answers_invalidOpcode s (.inr rfl)
  | unassignedB6 => exact answers_invalidOpcode s (.inr rfl)
  | unassignedB7 => exact answers_invalidOpcode s (.inr rfl)
  | unassignedB8 => exact answers_invalidOpcode s (.inr rfl)
  | unassignedB9 => exact answers_invalidOpcode s (.inr rfl)
  | unassignedBA => exact answers_invalidOpcode s (.inr rfl)
  | unassignedBB => exact answers_invalidOpcode s (.inr rfl)
  | unassignedBC => exact answers_invalidOpcode s (.inr rfl)
  | unassignedBD => exact answers_invalidOpcode s (.inr rfl)
  | unassignedBE => exact answers_invalidOpcode s (.inr rfl)
  | unassignedBF => exact answers_invalidOpcode s (.inr rfl)
  | unassignedC0 => exact answers_invalidOpcode s (.inr rfl)
  | unassignedC1 => exact answers_invalidOpcode s (.inr rfl)
  | unassignedC2 => exact answers_invalidOpcode s (.inr rfl)
  | unassignedC3 => exact answers_invalidOpcode s (.inr rfl)
  | unassignedC4 => exact answers_invalidOpcode s (.inr rfl)
  | unassignedC5 => exact answers_invalidOpcode s (.inr rfl)
  | unassignedC6 => exact answers_invalidOpcode s (.inr rfl)
  | unassignedC7 => exact answers_invalidOpcode s (.inr rfl)
  | unassignedC8 => exact answers_invalidOpcode s (.inr rfl)
  | unassignedC9 => exact answers_invalidOpcode s (.inr rfl)
  | unassignedCA => exact answers_invalidOpcode s (.inr rfl)
  | unassignedCB => exact answers_invalidOpcode s (.inr rfl)
  | unassignedCC => exact answers_invalidOpcode s (.inr rfl)
  | unassignedCD => exact answers_invalidOpcode s (.inr rfl)
  | unassignedCE => exact answers_invalidOpcode s (.inr rfl)
  | unassignedCF => exact answers_invalidOpcode s (.inr rfl)
  | unassignedD0 => exact answers_invalidOpcode s (.inr rfl)
  | unassignedD1 => exact answers_invalidOpcode s (.inr rfl)
  | unassignedD2 => exact answers_invalidOpcode s (.inr rfl)
  | unassignedD3 => exact answers_invalidOpcode s (.inr rfl)
  | unassignedD4 => exact answers_invalidOpcode s (.inr rfl)
  | unassignedD5 => exact answers_invalidOpcode s (.inr rfl)
  | unassignedD6 => exact answers_invalidOpcode s (.inr rfl)
  | unassignedD7 => exact answers_invalidOpcode s (.inr rfl)
  | unassignedD8 => exact answers_invalidOpcode s (.inr rfl)
  | unassignedD9 => exact answers_invalidOpcode s (.inr rfl)
  | unassignedDA => exact answers_invalidOpcode s (.inr rfl)
  | unassignedDB => exact answers_invalidOpcode s (.inr rfl)
  | unassignedDC => exact answers_invalidOpcode s (.inr rfl)
  | unassignedDD => exact answers_invalidOpcode s (.inr rfl)
  | unassignedDE => exact answers_invalidOpcode s (.inr rfl)
  | unassignedDF => exact answers_invalidOpcode s (.inr rfl)
  | unassignedE0 => exact answers_invalidOpcode s (.inr rfl)
  | unassignedE1 => exact answers_invalidOpcode s (.inr rfl)
  | unassignedE2 => exact answers_invalidOpcode s (.inr rfl)
  | unassignedE3 => exact answers_invalidOpcode s (.inr rfl)
  | unassignedE4 => exact answers_invalidOpcode s (.inr rfl)
  | unassignedE5 => exact answers_invalidOpcode s (.inr rfl)
  | unassignedE6 => exact answers_invalidOpcode s (.inr rfl)
  | unassignedE7 => exact answers_invalidOpcode s (.inr rfl)
  | unassignedE8 => exact answers_invalidOpcode s (.inr rfl)
  | unassignedE9 => exact answers_invalidOpcode s (.inr rfl)
  | unassignedEA => exact answers_invalidOpcode s (.inr rfl)
  | unassignedEB => exact answers_invalidOpcode s (.inr rfl)
  | unassignedEC => exact answers_invalidOpcode s (.inr rfl)
  | unassignedED => exact answers_invalidOpcode s (.inr rfl)
  | unassignedEE => exact answers_invalidOpcode s (.inr rfl)
  | unassignedEF => exact answers_invalidOpcode s (.inr rfl)
  | create => exact answers_unlisted s rfl
  | call => exact answers_unlisted s rfl
  | callcode => exact answers_unlisted s rfl
  | ret => exact answers_haltReading s (.inl ⟨rfl, rfl⟩)
  | delegatecall => exact answers_unlisted s rfl
  | create2 => exact answers_unlisted s rfl
  | unassignedF6 => exact answers_invalidOpcode s (.inr rfl)
  | unassignedF7 => exact answers_invalidOpcode s (.inr rfl)
  | unassignedF8 => exact answers_invalidOpcode s (.inr rfl)
  | unassignedF9 => exact answers_invalidOpcode s (.inr rfl)
  | staticcall => exact answers_unlisted s rfl
  | unassignedFB => exact answers_invalidOpcode s (.inr rfl)
  | unassignedFC => exact answers_invalidOpcode s (.inr rfl)
  | revert => exact answers_haltReading s (.inr ⟨rfl, rfl⟩)
  | invalid => exact answers_invalidOpcode s (.inl rfl)
  | selfdestruct => exact answers_unlisted s rfl

/-- What a step can do, when it answers a next state: the implicit stop, or the effect of the instruction at `pc`. -/
theorem step_next {s t : State} (h : step s = .next t) :
    s.refused = false ∧ s.halt = .running ∧
      (s.code.length ≤ s.pc ∧ t = s.haltWith .stopped [] ∨
        ∃ i, decode s.fetch = .ok i ∧ s.pc < s.code.length ∧ Effect i s t) := by
  unfold step at h
  split at h
  · cases h
  · rename_i hr
    split at h
    · cases h
    · rename_i hh
      refine ⟨by simpa using hr, by simpa using hh, ?_⟩
      split at h
      · rename_i hd
        left
        refine ⟨?_, ?_⟩
        · unfold State.fetch at hd
          by_contra hlt
          rw [List.drop_eq_getElem_cons (by omega)] at hd
          cases hd
        · injection h with h
          exact h.symm
      · rename_i i hd
        right
        obtain ⟨u, hu, he⟩ := exec_answers i s
        rw [hu] at h
        injection h with h
        subst h
        refine ⟨i, hd, ?_, he⟩
        by_contra hlt
        rw [State.fetch, List.drop_eq_nil_of_le (by omega)] at hd
        cases hd

end Sys2Proof.Machine
end

