-- ==== Sys2Proof/Laws/Keccak.lean ====
section
/-! SUPPORT. The two tables of Keccak-f[1600] agree with the recurrences R260 gives for them, and a digest is 32 bytes. -/

namespace Sys2Proof.Machine

/-- R260's walk: at step `t` from `(x, y)` the entry `x + 5y` is `(t+1)(t+2)/2 mod 64`; then `(x, y) <- (y, 2x + 3y)`. -/
def rotWalk : Nat → Nat → Nat → Nat → List (Nat × Nat)
  | 0, _, _, _ => []
  | n + 1, t, x, y => (x + 5 * y, (t + 1) * (t + 2) / 2 % 64) :: rotWalk n (t + 1) y ((2 * x + 3 * y) % 5)

/-- `x^t mod (x^8 + x^6 + x^5 + x^4 + 1)` over GF(2), as the bits of a number. -/
def lfsr : Nat → Nat
  | 0 => 1
  | t + 1 => let w := 2 * lfsr t; if 256 ≤ w then w ^^^ 0x171 else w

/-- `RC[r]`: bit `2^j - 1` is `rc(j + 7r)` for `j` below 7. -/
def rcOf (r : Nat) : Lane :=
  (List.range 7).foldl (fun acc j => acc ||| BitVec.ofNat 64 (lfsr (j + 7 * r) % 2 * 2 ^ (2 ^ j - 1))) 0

theorem rotTable_eq_walk :
    rotTable.getD 0 1 = 0 ∧ (rotWalk 24 0 1 0).all (fun e => rotTable.getD e.1 64 == e.2) = true ∧
      ((rotWalk 24 0 1 0).map Prod.fst).Nodup := by
  decide +kernel

theorem roundConstants_eq_lfsr : roundConstants = (List.range 24).map rcOf := by
  decide +kernel

@[simp] theorem keccak256_length (data : List Byte) : (keccak256 data).length = 32 := by
  simp [keccak256, laneBytes]

end Sys2Proof.Machine
end

