-- ==== Sys2Proof/Laws/PerInstr.lean ====
section
/-! SUPPORT. One law per instruction. Family OpcodeRow: the opcode map, read at an instruction's own opcode byte and
given its own immediate, answers that instruction, and the length test of R81 answers its own immediate length. It is
the table half of "decode and encode agree"; the immediate's bytes are the other half. -/

namespace Sys2Proof.Laws.OpcodeRow

/-- The map and the length test, at the byte of `i`. -/
def Statement (i : Instr) : Prop :=
  instrOf (opcodeByte i) ((i.immediate.map Prod.snd).getD 0) = i ∧
    pushLength (opcodeByte i) = (i.immediate.map Prod.fst).getD 0

/-- A PUSH row: the opcode byte is a numeral, so the map is read at a numeral. -/
theorem ofPushRow {i : Instr} {n : Nat} {v : Word} (op : Byte) (hop : opcodeByte i = op)
    (himm : i.immediate = some (n, v)) (hlen : pushLength op = n) (hrow : instrOf op v = i) : Statement i := by
  simp [Statement, hop, himm, hlen, hrow]

theorem stop : Statement .stop := ⟨rfl, rfl⟩
theorem add : Statement .add := ⟨rfl, rfl⟩
theorem mul : Statement .mul := ⟨rfl, rfl⟩
theorem sub : Statement .sub := ⟨rfl, rfl⟩
theorem div : Statement .div := ⟨rfl, rfl⟩
theorem sdiv : Statement .sdiv := ⟨rfl, rfl⟩
theorem mod : Statement .mod := ⟨rfl, rfl⟩
theorem smod : Statement .smod := ⟨rfl, rfl⟩
theorem addmod : Statement .addmod := ⟨rfl, rfl⟩
theorem mulmod : Statement .mulmod := ⟨rfl, rfl⟩
theorem exp : Statement .exp := ⟨rfl, rfl⟩
theorem signextend : Statement .signextend := ⟨rfl, rfl⟩
theorem unassigned0C : Statement .unassigned0C := ⟨rfl, rfl⟩
theorem unassigned0D : Statement .unassigned0D := ⟨rfl, rfl⟩
theorem unassigned0E : Statement .unassigned0E := ⟨rfl, rfl⟩
theorem unassigned0F : Statement .unassigned0F := ⟨rfl, rfl⟩
theorem lt : Statement .lt := ⟨rfl, rfl⟩
theorem gt : Statement .gt := ⟨rfl, rfl⟩
theorem slt : Statement .slt := ⟨rfl, rfl⟩
theorem sgt : Statement .sgt := ⟨rfl, rfl⟩
theorem eq : Statement .eq := ⟨rfl, rfl⟩
theorem iszero : Statement .iszero := ⟨rfl, rfl⟩
theorem and : Statement .and := ⟨rfl, rfl⟩
theorem or : Statement .or := ⟨rfl, rfl⟩
theorem xor : Statement .xor := ⟨rfl, rfl⟩
theorem not : Statement .not := ⟨rfl, rfl⟩
theorem byte : Statement .byte := ⟨rfl, rfl⟩
theorem shl : Statement .shl := ⟨rfl, rfl⟩
theorem shr : Statement .shr := ⟨rfl, rfl⟩
theorem sar : Statement .sar := ⟨rfl, rfl⟩
theorem unassigned1E : Statement .unassigned1E := ⟨rfl, rfl⟩
theorem unassigned1F : Statement .unassigned1F := ⟨rfl, rfl⟩
theorem sha3 : Statement .sha3 := ⟨rfl, rfl⟩
theorem unassigned21 : Statement .unassigned21 := ⟨rfl, rfl⟩
theorem unassigned22 : Statement .unassigned22 := ⟨rfl, rfl⟩
theorem unassigned23 : Statement .unassigned23 := ⟨rfl, rfl⟩
theorem unassigned24 : Statement .unassigned24 := ⟨rfl, rfl⟩
theorem unassigned25 : Statement .unassigned25 := ⟨rfl, rfl⟩
theorem unassigned26 : Statement .unassigned26 := ⟨rfl, rfl⟩
theorem unassigned27 : Statement .unassigned27 := ⟨rfl, rfl⟩
theorem unassigned28 : Statement .unassigned28 := ⟨rfl, rfl⟩
theorem unassigned29 : Statement .unassigned29 := ⟨rfl, rfl⟩
theorem unassigned2A : Statement .unassigned2A := ⟨rfl, rfl⟩
theorem unassigned2B : Statement .unassigned2B := ⟨rfl, rfl⟩
theorem unassigned2C : Statement .unassigned2C := ⟨rfl, rfl⟩
theorem unassigned2D : Statement .unassigned2D := ⟨rfl, rfl⟩
theorem unassigned2E : Statement .unassigned2E := ⟨rfl, rfl⟩
theorem unassigned2F : Statement .unassigned2F := ⟨rfl, rfl⟩
theorem address : Statement .address := ⟨rfl, rfl⟩
theorem balance : Statement .balance := ⟨rfl, rfl⟩
theorem origin : Statement .origin := ⟨rfl, rfl⟩
theorem caller : Statement .caller := ⟨rfl, rfl⟩
theorem callvalue : Statement .callvalue := ⟨rfl, rfl⟩
theorem calldataload : Statement .calldataload := ⟨rfl, rfl⟩
theorem calldatasize : Statement .calldatasize := ⟨rfl, rfl⟩
theorem calldatacopy : Statement .calldatacopy := ⟨rfl, rfl⟩
theorem codesize : Statement .codesize := ⟨rfl, rfl⟩
theorem codecopy : Statement .codecopy := ⟨rfl, rfl⟩
theorem gasprice : Statement .gasprice := ⟨rfl, rfl⟩
theorem extcodesize : Statement .extcodesize := ⟨rfl, rfl⟩
theorem extcodecopy : Statement .extcodecopy := ⟨rfl, rfl⟩
theorem returndatasize : Statement .returndatasize := ⟨rfl, rfl⟩
theorem returndatacopy : Statement .returndatacopy := ⟨rfl, rfl⟩
theorem extcodehash : Statement .extcodehash := ⟨rfl, rfl⟩
theorem blockhash : Statement .blockhash := ⟨rfl, rfl⟩
theorem coinbase : Statement .coinbase := ⟨rfl, rfl⟩
theorem timestamp : Statement .timestamp := ⟨rfl, rfl⟩
theorem number : Statement .number := ⟨rfl, rfl⟩
theorem prevrandao : Statement .prevrandao := ⟨rfl, rfl⟩
theorem gaslimit : Statement .gaslimit := ⟨rfl, rfl⟩
theorem chainid : Statement .chainid := ⟨rfl, rfl⟩
theorem selfbalance : Statement .selfbalance := ⟨rfl, rfl⟩
theorem basefee : Statement .basefee := ⟨rfl, rfl⟩
theorem blobhash : Statement .blobhash := ⟨rfl, rfl⟩
theorem blobbasefee : Statement .blobbasefee := ⟨rfl, rfl⟩
theorem unassigned4B : Statement .unassigned4B := ⟨rfl, rfl⟩
theorem unassigned4C : Statement .unassigned4C := ⟨rfl, rfl⟩
theorem unassigned4D : Statement .unassigned4D := ⟨rfl, rfl⟩
theorem unassigned4E : Statement .unassigned4E := ⟨rfl, rfl⟩
theorem unassigned4F : Statement .unassigned4F := ⟨rfl, rfl⟩
theorem pop : Statement .pop := ⟨rfl, rfl⟩
theorem mload : Statement .mload := ⟨rfl, rfl⟩
theorem mstore : Statement .mstore := ⟨rfl, rfl⟩
theorem mstore8 : Statement .mstore8 := ⟨rfl, rfl⟩
theorem sload : Statement .sload := ⟨rfl, rfl⟩
theorem sstore : Statement .sstore := ⟨rfl, rfl⟩
theorem jump : Statement .jump := ⟨rfl, rfl⟩
theorem jumpi : Statement .jumpi := ⟨rfl, rfl⟩
theorem pc : Statement .pc := ⟨rfl, rfl⟩
theorem msize : Statement .msize := ⟨rfl, rfl⟩
theorem gas : Statement .gas := ⟨rfl, rfl⟩
theorem jumpdest : Statement .jumpdest := ⟨rfl, rfl⟩
theorem tload : Statement .tload := ⟨rfl, rfl⟩
theorem tstore : Statement .tstore := ⟨rfl, rfl⟩
theorem mcopy : Statement .mcopy := ⟨rfl, rfl⟩
theorem push0 : Statement .push0 := ⟨rfl, rfl⟩
theorem push1 (v : Word) : Statement (.push1 v) := ofPushRow 0x60#8 rfl rfl rfl rfl
theorem push2 (v : Word) : Statement (.push2 v) := ofPushRow 0x61#8 rfl rfl rfl rfl
theorem push3 (v : Word) : Statement (.push3 v) := ofPushRow 0x62#8 rfl rfl rfl rfl
theorem push4 (v : Word) : Statement (.push4 v) := ofPushRow 0x63#8 rfl rfl rfl rfl
theorem push5 (v : Word) : Statement (.push5 v) := ofPushRow 0x64#8 rfl rfl rfl rfl
theorem push6 (v : Word) : Statement (.push6 v) := ofPushRow 0x65#8 rfl rfl rfl rfl
theorem push7 (v : Word) : Statement (.push7 v) := ofPushRow 0x66#8 rfl rfl rfl rfl
theorem push8 (v : Word) : Statement (.push8 v) := ofPushRow 0x67#8 rfl rfl rfl rfl
theorem push9 (v : Word) : Statement (.push9 v) := ofPushRow 0x68#8 rfl rfl rfl rfl
theorem push10 (v : Word) : Statement (.push10 v) := ofPushRow 0x69#8 rfl rfl rfl rfl
theorem push11 (v : Word) : Statement (.push11 v) := ofPushRow 0x6A#8 rfl rfl rfl rfl
theorem push12 (v : Word) : Statement (.push12 v) := ofPushRow 0x6B#8 rfl rfl rfl rfl
theorem push13 (v : Word) : Statement (.push13 v) := ofPushRow 0x6C#8 rfl rfl rfl rfl
theorem push14 (v : Word) : Statement (.push14 v) := ofPushRow 0x6D#8 rfl rfl rfl rfl
theorem push15 (v : Word) : Statement (.push15 v) := ofPushRow 0x6E#8 rfl rfl rfl rfl
theorem push16 (v : Word) : Statement (.push16 v) := ofPushRow 0x6F#8 rfl rfl rfl rfl
theorem push17 (v : Word) : Statement (.push17 v) := ofPushRow 0x70#8 rfl rfl rfl rfl
theorem push18 (v : Word) : Statement (.push18 v) := ofPushRow 0x71#8 rfl rfl rfl rfl
theorem push19 (v : Word) : Statement (.push19 v) := ofPushRow 0x72#8 rfl rfl rfl rfl
theorem push20 (v : Word) : Statement (.push20 v) := ofPushRow 0x73#8 rfl rfl rfl rfl
theorem push21 (v : Word) : Statement (.push21 v) := ofPushRow 0x74#8 rfl rfl rfl rfl
theorem push22 (v : Word) : Statement (.push22 v) := ofPushRow 0x75#8 rfl rfl rfl rfl
theorem push23 (v : Word) : Statement (.push23 v) := ofPushRow 0x76#8 rfl rfl rfl rfl
theorem push24 (v : Word) : Statement (.push24 v) := ofPushRow 0x77#8 rfl rfl rfl rfl
theorem push25 (v : Word) : Statement (.push25 v) := ofPushRow 0x78#8 rfl rfl rfl rfl
theorem push26 (v : Word) : Statement (.push26 v) := ofPushRow 0x79#8 rfl rfl rfl rfl
theorem push27 (v : Word) : Statement (.push27 v) := ofPushRow 0x7A#8 rfl rfl rfl rfl
theorem push28 (v : Word) : Statement (.push28 v) := ofPushRow 0x7B#8 rfl rfl rfl rfl
theorem push29 (v : Word) : Statement (.push29 v) := ofPushRow 0x7C#8 rfl rfl rfl rfl
theorem push30 (v : Word) : Statement (.push30 v) := ofPushRow 0x7D#8 rfl rfl rfl rfl
theorem push31 (v : Word) : Statement (.push31 v) := ofPushRow 0x7E#8 rfl rfl rfl rfl
theorem push32 (v : Word) : Statement (.push32 v) := ofPushRow 0x7F#8 rfl rfl rfl rfl
theorem dup1 : Statement .dup1 := ⟨rfl, rfl⟩
theorem dup2 : Statement .dup2 := ⟨rfl, rfl⟩
theorem dup3 : Statement .dup3 := ⟨rfl, rfl⟩
theorem dup4 : Statement .dup4 := ⟨rfl, rfl⟩
theorem dup5 : Statement .dup5 := ⟨rfl, rfl⟩
theorem dup6 : Statement .dup6 := ⟨rfl, rfl⟩
theorem dup7 : Statement .dup7 := ⟨rfl, rfl⟩
theorem dup8 : Statement .dup8 := ⟨rfl, rfl⟩
theorem dup9 : Statement .dup9 := ⟨rfl, rfl⟩
theorem dup10 : Statement .dup10 := ⟨rfl, rfl⟩
theorem dup11 : Statement .dup11 := ⟨rfl, rfl⟩
theorem dup12 : Statement .dup12 := ⟨rfl, rfl⟩
theorem dup13 : Statement .dup13 := ⟨rfl, rfl⟩
theorem dup14 : Statement .dup14 := ⟨rfl, rfl⟩
theorem dup15 : Statement .dup15 := ⟨rfl, rfl⟩
theorem dup16 : Statement .dup16 := ⟨rfl, rfl⟩
theorem swap1 : Statement .swap1 := ⟨rfl, rfl⟩
theorem swap2 : Statement .swap2 := ⟨rfl, rfl⟩
theorem swap3 : Statement .swap3 := ⟨rfl, rfl⟩
theorem swap4 : Statement .swap4 := ⟨rfl, rfl⟩
theorem swap5 : Statement .swap5 := ⟨rfl, rfl⟩
theorem swap6 : Statement .swap6 := ⟨rfl, rfl⟩
theorem swap7 : Statement .swap7 := ⟨rfl, rfl⟩
theorem swap8 : Statement .swap8 := ⟨rfl, rfl⟩
theorem swap9 : Statement .swap9 := ⟨rfl, rfl⟩
theorem swap10 : Statement .swap10 := ⟨rfl, rfl⟩
theorem swap11 : Statement .swap11 := ⟨rfl, rfl⟩
theorem swap12 : Statement .swap12 := ⟨rfl, rfl⟩
theorem swap13 : Statement .swap13 := ⟨rfl, rfl⟩
theorem swap14 : Statement .swap14 := ⟨rfl, rfl⟩
theorem swap15 : Statement .swap15 := ⟨rfl, rfl⟩
theorem swap16 : Statement .swap16 := ⟨rfl, rfl⟩
theorem log0 : Statement .log0 := ⟨rfl, rfl⟩
theorem log1 : Statement .log1 := ⟨rfl, rfl⟩
theorem log2 : Statement .log2 := ⟨rfl, rfl⟩
theorem log3 : Statement .log3 := ⟨rfl, rfl⟩
theorem log4 : Statement .log4 := ⟨rfl, rfl⟩
theorem unassignedA5 : Statement .unassignedA5 := ⟨rfl, rfl⟩
theorem unassignedA6 : Statement .unassignedA6 := ⟨rfl, rfl⟩
theorem unassignedA7 : Statement .unassignedA7 := ⟨rfl, rfl⟩
theorem unassignedA8 : Statement .unassignedA8 := ⟨rfl, rfl⟩
theorem unassignedA9 : Statement .unassignedA9 := ⟨rfl, rfl⟩
theorem unassignedAA : Statement .unassignedAA := ⟨rfl, rfl⟩
theorem unassignedAB : Statement .unassignedAB := ⟨rfl, rfl⟩
theorem unassignedAC : Statement .unassignedAC := ⟨rfl, rfl⟩
theorem unassignedAD : Statement .unassignedAD := ⟨rfl, rfl⟩
theorem unassignedAE : Statement .unassignedAE := ⟨rfl, rfl⟩
theorem unassignedAF : Statement .unassignedAF := ⟨rfl, rfl⟩
theorem unassignedB0 : Statement .unassignedB0 := ⟨rfl, rfl⟩
theorem unassignedB1 : Statement .unassignedB1 := ⟨rfl, rfl⟩
theorem unassignedB2 : Statement .unassignedB2 := ⟨rfl, rfl⟩
theorem unassignedB3 : Statement .unassignedB3 := ⟨rfl, rfl⟩
theorem unassignedB4 : Statement .unassignedB4 := ⟨rfl, rfl⟩
theorem unassignedB5 : Statement .unassignedB5 := ⟨rfl, rfl⟩
theorem unassignedB6 : Statement .unassignedB6 := ⟨rfl, rfl⟩
theorem unassignedB7 : Statement .unassignedB7 := ⟨rfl, rfl⟩
theorem unassignedB8 : Statement .unassignedB8 := ⟨rfl, rfl⟩
theorem unassignedB9 : Statement .unassignedB9 := ⟨rfl, rfl⟩
theorem unassignedBA : Statement .unassignedBA := ⟨rfl, rfl⟩
theorem unassignedBB : Statement .unassignedBB := ⟨rfl, rfl⟩
theorem unassignedBC : Statement .unassignedBC := ⟨rfl, rfl⟩
theorem unassignedBD : Statement .unassignedBD := ⟨rfl, rfl⟩
theorem unassignedBE : Statement .unassignedBE := ⟨rfl, rfl⟩
theorem unassignedBF : Statement .unassignedBF := ⟨rfl, rfl⟩
theorem unassignedC0 : Statement .unassignedC0 := ⟨rfl, rfl⟩
theorem unassignedC1 : Statement .unassignedC1 := ⟨rfl, rfl⟩
theorem unassignedC2 : Statement .unassignedC2 := ⟨rfl, rfl⟩
theorem unassignedC3 : Statement .unassignedC3 := ⟨rfl, rfl⟩
theorem unassignedC4 : Statement .unassignedC4 := ⟨rfl, rfl⟩
theorem unassignedC5 : Statement .unassignedC5 := ⟨rfl, rfl⟩
theorem unassignedC6 : Statement .unassignedC6 := ⟨rfl, rfl⟩
theorem unassignedC7 : Statement .unassignedC7 := ⟨rfl, rfl⟩
theorem unassignedC8 : Statement .unassignedC8 := ⟨rfl, rfl⟩
theorem unassignedC9 : Statement .unassignedC9 := ⟨rfl, rfl⟩
theorem unassignedCA : Statement .unassignedCA := ⟨rfl, rfl⟩
theorem unassignedCB : Statement .unassignedCB := ⟨rfl, rfl⟩
theorem unassignedCC : Statement .unassignedCC := ⟨rfl, rfl⟩
theorem unassignedCD : Statement .unassignedCD := ⟨rfl, rfl⟩
theorem unassignedCE : Statement .unassignedCE := ⟨rfl, rfl⟩
theorem unassignedCF : Statement .unassignedCF := ⟨rfl, rfl⟩
theorem unassignedD0 : Statement .unassignedD0 := ⟨rfl, rfl⟩
theorem unassignedD1 : Statement .unassignedD1 := ⟨rfl, rfl⟩
theorem unassignedD2 : Statement .unassignedD2 := ⟨rfl, rfl⟩
theorem unassignedD3 : Statement .unassignedD3 := ⟨rfl, rfl⟩
theorem unassignedD4 : Statement .unassignedD4 := ⟨rfl, rfl⟩
theorem unassignedD5 : Statement .unassignedD5 := ⟨rfl, rfl⟩
theorem unassignedD6 : Statement .unassignedD6 := ⟨rfl, rfl⟩
theorem unassignedD7 : Statement .unassignedD7 := ⟨rfl, rfl⟩
theorem unassignedD8 : Statement .unassignedD8 := ⟨rfl, rfl⟩
theorem unassignedD9 : Statement .unassignedD9 := ⟨rfl, rfl⟩
theorem unassignedDA : Statement .unassignedDA := ⟨rfl, rfl⟩
theorem unassignedDB : Statement .unassignedDB := ⟨rfl, rfl⟩
theorem unassignedDC : Statement .unassignedDC := ⟨rfl, rfl⟩
theorem unassignedDD : Statement .unassignedDD := ⟨rfl, rfl⟩
theorem unassignedDE : Statement .unassignedDE := ⟨rfl, rfl⟩
theorem unassignedDF : Statement .unassignedDF := ⟨rfl, rfl⟩
theorem unassignedE0 : Statement .unassignedE0 := ⟨rfl, rfl⟩
theorem unassignedE1 : Statement .unassignedE1 := ⟨rfl, rfl⟩
theorem unassignedE2 : Statement .unassignedE2 := ⟨rfl, rfl⟩
theorem unassignedE3 : Statement .unassignedE3 := ⟨rfl, rfl⟩
theorem unassignedE4 : Statement .unassignedE4 := ⟨rfl, rfl⟩
theorem unassignedE5 : Statement .unassignedE5 := ⟨rfl, rfl⟩
theorem unassignedE6 : Statement .unassignedE6 := ⟨rfl, rfl⟩
theorem unassignedE7 : Statement .unassignedE7 := ⟨rfl, rfl⟩
theorem unassignedE8 : Statement .unassignedE8 := ⟨rfl, rfl⟩
theorem unassignedE9 : Statement .unassignedE9 := ⟨rfl, rfl⟩
theorem unassignedEA : Statement .unassignedEA := ⟨rfl, rfl⟩
theorem unassignedEB : Statement .unassignedEB := ⟨rfl, rfl⟩
theorem unassignedEC : Statement .unassignedEC := ⟨rfl, rfl⟩
theorem unassignedED : Statement .unassignedED := ⟨rfl, rfl⟩
theorem unassignedEE : Statement .unassignedEE := ⟨rfl, rfl⟩
theorem unassignedEF : Statement .unassignedEF := ⟨rfl, rfl⟩
theorem create : Statement .create := ⟨rfl, rfl⟩
theorem call : Statement .call := ⟨rfl, rfl⟩
theorem callcode : Statement .callcode := ⟨rfl, rfl⟩
theorem ret : Statement .ret := ⟨rfl, rfl⟩
theorem delegatecall : Statement .delegatecall := ⟨rfl, rfl⟩
theorem create2 : Statement .create2 := ⟨rfl, rfl⟩
theorem unassignedF6 : Statement .unassignedF6 := ⟨rfl, rfl⟩
theorem unassignedF7 : Statement .unassignedF7 := ⟨rfl, rfl⟩
theorem unassignedF8 : Statement .unassignedF8 := ⟨rfl, rfl⟩
theorem unassignedF9 : Statement .unassignedF9 := ⟨rfl, rfl⟩
theorem staticcall : Statement .staticcall := ⟨rfl, rfl⟩
theorem unassignedFB : Statement .unassignedFB := ⟨rfl, rfl⟩
theorem unassignedFC : Statement .unassignedFC := ⟨rfl, rfl⟩
theorem revert : Statement .revert := ⟨rfl, rfl⟩
theorem invalid : Statement .invalid := ⟨rfl, rfl⟩
theorem selfdestruct : Statement .selfdestruct := ⟨rfl, rfl⟩

end Sys2Proof.Laws.OpcodeRow
end

