-- ==== Sys2Proof/Laws/Runs.lean ====
section
/-! SUPPORT. The memory instructions when their access is in bounds, the length an access leaves, and how the opcode
positions of a code lie. -/

namespace Sys2Proof

/-- Between an opcode and the byte past its immediates there is no opcode position: two positions do not overlap. -/
theorem OpcodePosition.gap {code : List Byte} {p : Nat} (hp : OpcodePosition code p) {op : Byte}
    (hop : code[p]? = some op) {i : Nat} (hi : OpcodePosition code i) : i ≤ p ∨ p + 1 + pushLength op ≤ i := by
  induction p using Nat.strong_induction_on generalizing op i with
  | _ p ih =>
    induction hi with
    | first => exact .inl (Nat.zero_le _)
    | @next j o hj ho ihj =>
      rcases ihj with h | h
      · rcases Nat.lt_or_eq_of_le h with h | rfl
        · have := ih j h hj ho hp
          omega
        · rw [hop] at ho
          injection ho with ho
          subst ho
          exact .inr (Nat.le_refl _)
      · exact .inr (by omega)

/-- Every jump target lies in the code. -/
theorem lt_of_mem_jumpdestsFrom {bs : List Byte} {skip i t : Nat} (h : t ∈ jumpdestsFrom bs skip i) :
    t < i + bs.length := by
  induction bs generalizing skip i with
  | nil => simp [jumpdestsFrom] at h
  | cons b bs ih =>
    rw [List.length_cons]
    cases skip with
    | succ k =>
      have := ih (skip := k) (i := i + 1) (by simpa [jumpdestsFrom] using h)
      omega
    | zero =>
      simp only [jumpdestsFrom] at h
      split at h
      · rcases List.mem_cons.1 h with rfl | h
        · omega
        · have := ih h
          omega
      · have := ih h
        omega

namespace Machine

/-- The length of memory after an access that expands it. -/
theorem Memory.expand_len {p : Params} {off size : Nat} {m m' : Memory} (h : m.expand p off size = some m') :
    m'.len = lengthAfter p off size m.len := by
  obtain ⟨h1, h2, he⟩ | ⟨-, -, he⟩ | ⟨h1, -, he⟩ := Memory.expand_cases p off size m <;> rw [h] at he
  · injection he with he
    simp [he, lengthAfter, h1, h2]
  · cases he
  · injection he with he
    rw [he, Memory.grow_len, lengthAfter]
    by_cases hlt : m.len < off + size
    · rw [if_pos hlt, if_neg (fun hc => hc.elim h1 (by omega))]
      rfl
    · rw [if_neg hlt, if_pos (.inr (by omega))]

/-- An access in bounds expands. -/
theorem Memory.expand_of_inBounds {p : Params} {off size : Nat} (m : Memory) (h : InBounds p off size) :
    ∃ m', m.expand p off size = some m' := by
  obtain ⟨-, -, he⟩ | ⟨h1, h2, -⟩ | ⟨-, -, he⟩ := Memory.expand_cases p off size m
  · exact ⟨_, he⟩
  · exact h.elim (fun hc => absurd hc h1) (by omega)
  · exact ⟨_, he⟩

/-- MLOAD in bounds. -/
theorem exec_mload {s : State} {off : Word} {st : List Word} (h : s.stack = off :: st)
    (hc : off.toNat + 32 ≤ s.params.memCeiling) :
    exec .mload s = .next { s with
      stack := BitVec.ofNat 256 (be (s.mem.bytes off.toNat 32)) :: st
      mem := s.mem.grow (off.toNat + 32), pc := s.pc + 1 } := by
  have he := Memory.expand_of_le s.mem (off := off.toNat) (size := 32) (by omega) hc
  rw [← Memory.bytes_congr (Memory.expand_some he).1 off.toNat 32]
  exact (need1_of_cons h _).trans (readRange_of_some he _)

/-- MSTORE in bounds, from a canonical memory: the bytes of the next state's memory. -/
theorem exec_mstore {s : State} {off v : Word} {st : List Word} (hw : s.mem.wf = true)
    (h : s.stack = off :: v :: st) (hc : off.toNat + 32 ≤ s.params.memCeiling) :
    ∃ m : Memory, exec .mstore s = .next { s with stack := st, mem := m, pc := s.pc + 1 } ∧ m.wf = true ∧
      m.len = lengthAfter s.params off.toNat 32 s.mem.len ∧
      ∀ a, m.readByte a =
        if off.toNat ≤ a ∧ a < off.toNat + 32 then (bytesBe v.toNat 32).getD (a - off.toNat) 0#8
        else s.mem.readByte a := by
  have he := Memory.expand_of_le s.mem (off := off.toNat) (size := (bytesBe v.toNat 32).length) (by simp)
    (by simpa using hc)
  have hx := Memory.expand_some he
  have hend := hx.2.2.2.1 (by simp)
  refine ⟨Memory.storeBytes _ _ _, (need2_of_cons h _).trans (writeRange_of_some he _),
    Memory.storeBytes_wf (hx.2.2.1 hw) _ hend, ?_, fun a => ?_⟩
  · rw [Memory.storeBytes_len, Memory.expand_len he, bytesBe_length]
  · rw [Memory.storeBytes_readByte (hx.2.2.1 hw) _ hend]
    simp

/-- MSTORE8 in bounds, from a canonical memory: the bytes of the next state's memory. -/
theorem exec_mstore8 {s : State} {off v : Word} {st : List Word} (hw : s.mem.wf = true)
    (h : s.stack = off :: v :: st) (hc : off.toNat + 1 ≤ s.params.memCeiling) :
    ∃ m : Memory, exec .mstore8 s = .next { s with stack := st, mem := m, pc := s.pc + 1 } ∧ m.wf = true ∧
      m.len = lengthAfter s.params off.toNat 1 s.mem.len ∧
      ∀ a, m.readByte a = if a = off.toNat then BitVec.ofNat 8 (v.toNat % 256) else s.mem.readByte a := by
  have he := Memory.expand_of_le s.mem (off := off.toNat) (size := [BitVec.ofNat 8 (v.toNat % 256)].length) (by simp)
    (by simpa using hc)
  have hx := Memory.expand_some he
  have hend := hx.2.2.2.1 (by simp)
  refine ⟨Memory.storeBytes _ _ _, (need2_of_cons h _).trans (writeRange_of_some he _),
    Memory.storeBytes_wf (hx.2.2.1 hw) _ hend, ?_, fun a => ?_⟩
  · simpa using Memory.expand_len he
  · rw [Memory.storeBytes_readByte (hx.2.2.1 hw) _ hend, Memory.grow_readByte]
    by_cases ha : a = off.toNat
    · rw [if_pos (by simp; omega), if_pos ha, ha]
      simp
    · rw [if_neg (by simp; omega), if_neg ha]

/-- Every class X instruction, whatever the parameter. -/
theorem exec_of_unlisted {i : Instr} (h : i.opClass = .unlisted) (s : State) : exec i s = unlisted s := by
  cases i <;> first | rfl | simp [Instr.opClass] at h

/-- The INVALID byte and every class U instruction. -/
theorem exec_of_unassigned {i : Instr} (h : i = .invalid ∨ i.opClass = .unassigned) (s : State) :
    exec i s = invalidOpcode s := by
  cases i <;> first | rfl | simp [Instr.opClass] at h

end Machine

end Sys2Proof
end

