-- ==== Sys2Proof/Tests/Slice0.lean ====
section
/-! SUPPORT. Tests. The expected results are read from spec/95_test_vectors.md, from the opcode table and from the rules
named in the comments. The theorems named witness_… meet the hypotheses of the statement of that name. -/

namespace Sys2Proof.Tests

set_option Elab.async false

open Sys2Proof Sys2Proof.Machine

/-! ### Helpers -/

/-- A Word from a number. -/
def w (n : Nat) : Word := BitVec.ofNat 256 n

/-- `2^256 - n`, the Word of `-n`. -/
def neg (n : Nat) : Word := BitVec.ofNat 256 (2 ^ 256 - n)

/-- The reset state with a stack, top first. -/
def withStack (st : List Word) : State := { State.reset with stack := st }

/-- The reset state with a code and its jump targets. -/
def withCode (code : List Byte) : State := { State.reset with code := code, jd := jumpdests code }

/-- The next state, if there is one. -/
def nextOf : Host.Outcome State Fault Refusal → Option State
  | .next t => some t
  | _ => none

/-- The stack a result leaves, with the halt reason. -/
def stackOf : Host.Outcome State Fault Refusal → Option (List Word × HaltReason)
  | .next t => some (t.stack, t.halt)
  | _ => none

/-- The stack, top first, after one instruction on a stack, with the halt reason. -/
def after (i : Instr) (st : List Word) : Option (List Word × HaltReason) := stackOf (exec i (withStack st))

/-- The instruction ran on and left this stack. -/
def left (st : List Word) : Option (List Word × HaltReason) := some (st, .running)

/-- What a state shows of its control. -/
structure Control where
  pc : Nat
  memLen : Nat
  halt : HaltReason
  fault : FaultKind
  rd : List Byte
  deriving DecidableEq, Repr

/-- The control of the next state, if there is one. -/
def control : Host.Outcome State Fault Refusal → Option Control
  | .next t => some ⟨t.pc, t.mem.len, t.halt, t.fault, t.rd⟩
  | _ => none

/-- The bytes 0x01, 0x02, … 0x20. -/
def count32 : List Byte :=
  [0x01, 0x02, 0x03, 0x04, 0x05, 0x06, 0x07, 0x08, 0x09, 0x0A, 0x0B, 0x0C, 0x0D, 0x0E, 0x0F, 0x10] ++
  [0x11, 0x12, 0x13, 0x14, 0x15, 0x16, 0x17, 0x18, 0x19, 0x1A, 0x1B, 0x1C, 0x1D, 0x1E, 0x1F, 0x20]

/-- The reset state with the environment of spec/95_test_vectors.md section 2.10 and the calldata 010203. -/
def inEnv : State :=
  { State.reset with
    calldata := [1, 2, 3]
    env := { address := 0xDEADBEEF, caller := 0x1234, origin := 0xABCD, callvalue := w (10 ^ 18), chainid := 1
             number := 17000000, timestamp := 1700000000, coinbase := 0xC0FFEE, gaslimit := 30000000
             calldatasize := 3 } }

/-! ### Well-formed terms (R82, R89) -/

/-- An immediate one above the largest is refused, for every PUSH that has one. -/
theorem test_wellFormed_refuses_wide_immediates :
    ([
     .push1 (w (256 ^ 1)), .push2 (w (256 ^ 2)), .push3 (w (256 ^ 3)), .push4 (w (256 ^ 4)), .push5 (w (256 ^
     5)), .push6 (w (256 ^ 6)), .push7 (w (256 ^ 7)), .push8 (w (256 ^ 8)), .push9 (w (256 ^ 9)), .push10 (w
     (256 ^ 10)), .push11 (w (256 ^ 11)), .push12 (w (256 ^ 12)), .push13 (w (256 ^ 13)), .push14 (w (256 ^
     14)), .push15 (w (256 ^ 15)), .push16 (w (256 ^ 16)), .push17 (w (256 ^ 17)), .push18 (w (256 ^ 18)),
     .push19 (w (256 ^ 19)), .push20 (w (256 ^ 20)), .push21 (w (256 ^ 21)), .push22 (w (256 ^ 22)), .push23
     (w (256 ^ 23)), .push24 (w (256 ^ 24)), .push25 (w (256 ^ 25)), .push26 (w (256 ^ 26)), .push27 (w (256 ^
     27)), .push28 (w (256 ^ 28)), .push29 (w (256 ^ 29)), .push30 (w (256 ^ 30)), .push31 (w (256 ^ 31))
     ] : List Instr).all (fun i => i.wellFormed == false) = true := by decide

/-- The largest immediate is accepted. -/
theorem test_wellFormed_accepts_largest_immediates :
    ([
     .push1 (w (256 ^ 1 - 1)), .push2 (w (256 ^ 2 - 1)), .push3 (w (256 ^ 3 - 1)), .push4 (w (256 ^ 4 - 1)),
     .push5 (w (256 ^ 5 - 1)), .push6 (w (256 ^ 6 - 1)), .push7 (w (256 ^ 7 - 1)), .push8 (w (256 ^ 8 - 1)),
     .push9 (w (256 ^ 9 - 1)), .push10 (w (256 ^ 10 - 1)), .push11 (w (256 ^ 11 - 1)), .push12 (w (256 ^ 12 -
     1)), .push13 (w (256 ^ 13 - 1)), .push14 (w (256 ^ 14 - 1)), .push15 (w (256 ^ 15 - 1)), .push16 (w (256
     ^ 16 - 1)), .push17 (w (256 ^ 17 - 1)), .push18 (w (256 ^ 18 - 1)), .push19 (w (256 ^ 19 - 1)), .push20
     (w (256 ^ 20 - 1)), .push21 (w (256 ^ 21 - 1)), .push22 (w (256 ^ 22 - 1)), .push23 (w (256 ^ 23 - 1)),
     .push24 (w (256 ^ 24 - 1)), .push25 (w (256 ^ 25 - 1)), .push26 (w (256 ^ 26 - 1)), .push27 (w (256 ^ 27
     - 1)), .push28 (w (256 ^ 28 - 1)), .push29 (w (256 ^ 29 - 1)), .push30 (w (256 ^ 30 - 1)), .push31 (w
     (256 ^ 31 - 1)), .push32 (w (256 ^ 32 - 1))
     ] : List Instr).all Instr.wellFormed = true := by decide

/-! ### Decoding: every row of the opcode table, its byte written out from R85 -/

theorem test_decode_row_0 :
    [
     decode [0x00], decode [0x01], decode [0x02], decode [0x03], decode [0x04], decode [0x05], decode [0x06],
     decode [0x07], decode [0x08], decode [0x09], decode [0x0A], decode [0x0B], decode [0x0C], decode [0x0D],
     decode [0x0E], decode [0x0F]
    ] = ([
     .stop, .add, .mul, .sub, .div, .sdiv, .mod, .smod, .addmod, .mulmod, .exp, .signextend, .unassigned0C,
     .unassigned0D, .unassigned0E, .unassigned0F
    ] : List Instr).map .ok := by decide

theorem test_decode_row_1 :
    [
     decode [0x10], decode [0x11], decode [0x12], decode [0x13], decode [0x14], decode [0x15], decode [0x16],
     decode [0x17], decode [0x18], decode [0x19], decode [0x1A], decode [0x1B], decode [0x1C], decode [0x1D],
     decode [0x1E], decode [0x1F]
    ] = ([
     .lt, .gt, .slt, .sgt, .eq, .iszero, .and, .or, .xor, .not, .byte, .shl, .shr, .sar, .unassigned1E,
     .unassigned1F
    ] : List Instr).map .ok := by decide

theorem test_decode_row_2 :
    [
     decode [0x20], decode [0x21], decode [0x22], decode [0x23], decode [0x24], decode [0x25], decode [0x26],
     decode [0x27], decode [0x28], decode [0x29], decode [0x2A], decode [0x2B], decode [0x2C], decode [0x2D],
     decode [0x2E], decode [0x2F]
    ] = ([
     .sha3, .unassigned21, .unassigned22, .unassigned23, .unassigned24, .unassigned25, .unassigned26,
     .unassigned27, .unassigned28, .unassigned29, .unassigned2A, .unassigned2B, .unassigned2C, .unassigned2D,
     .unassigned2E, .unassigned2F
    ] : List Instr).map .ok := by decide

theorem test_decode_row_3 :
    [
     decode [0x30], decode [0x31], decode [0x32], decode [0x33], decode [0x34], decode [0x35], decode [0x36],
     decode [0x37], decode [0x38], decode [0x39], decode [0x3A], decode [0x3B], decode [0x3C], decode [0x3D],
     decode [0x3E], decode [0x3F]
    ] = ([
     .address, .balance, .origin, .caller, .callvalue, .calldataload, .calldatasize, .calldatacopy, .codesize,
     .codecopy, .gasprice, .extcodesize, .extcodecopy, .returndatasize, .returndatacopy, .extcodehash
    ] : List Instr).map .ok := by decide

theorem test_decode_row_4 :
    [
     decode [0x40], decode [0x41], decode [0x42], decode [0x43], decode [0x44], decode [0x45], decode [0x46],
     decode [0x47], decode [0x48], decode [0x49], decode [0x4A], decode [0x4B], decode [0x4C], decode [0x4D],
     decode [0x4E], decode [0x4F]
    ] = ([
     .blockhash, .coinbase, .timestamp, .number, .prevrandao, .gaslimit, .chainid, .selfbalance, .basefee,
     .blobhash, .blobbasefee, .unassigned4B, .unassigned4C, .unassigned4D, .unassigned4E, .unassigned4F
    ] : List Instr).map .ok := by decide

theorem test_decode_row_5 :
    [
     decode [0x50], decode [0x51], decode [0x52], decode [0x53], decode [0x54], decode [0x55], decode [0x56],
     decode [0x57], decode [0x58], decode [0x59], decode [0x5A], decode [0x5B], decode [0x5C], decode [0x5D],
     decode [0x5E], decode [0x5F]
    ] = ([
     .pop, .mload, .mstore, .mstore8, .sload, .sstore, .jump, .jumpi, .pc, .msize, .gas, .jumpdest, .tload,
     .tstore, .mcopy, .push0
    ] : List Instr).map .ok := by decide

theorem test_decode_row_8 :
    [
     decode [0x80], decode [0x81], decode [0x82], decode [0x83], decode [0x84], decode [0x85], decode [0x86],
     decode [0x87], decode [0x88], decode [0x89], decode [0x8A], decode [0x8B], decode [0x8C], decode [0x8D],
     decode [0x8E], decode [0x8F]
    ] = ([
     .dup1, .dup2, .dup3, .dup4, .dup5, .dup6, .dup7, .dup8, .dup9, .dup10, .dup11, .dup12, .dup13, .dup14,
     .dup15, .dup16
    ] : List Instr).map .ok := by decide

theorem test_decode_row_9 :
    [
     decode [0x90], decode [0x91], decode [0x92], decode [0x93], decode [0x94], decode [0x95], decode [0x96],
     decode [0x97], decode [0x98], decode [0x99], decode [0x9A], decode [0x9B], decode [0x9C], decode [0x9D],
     decode [0x9E], decode [0x9F]
    ] = ([
     .swap1, .swap2, .swap3, .swap4, .swap5, .swap6, .swap7, .swap8, .swap9, .swap10, .swap11, .swap12,
     .swap13, .swap14, .swap15, .swap16
    ] : List Instr).map .ok := by decide

theorem test_decode_row_A :
    [
     decode [0xA0], decode [0xA1], decode [0xA2], decode [0xA3], decode [0xA4], decode [0xA5], decode [0xA6],
     decode [0xA7], decode [0xA8], decode [0xA9], decode [0xAA], decode [0xAB], decode [0xAC], decode [0xAD],
     decode [0xAE], decode [0xAF]
    ] = ([
     .log0, .log1, .log2, .log3, .log4, .unassignedA5, .unassignedA6, .unassignedA7, .unassignedA8,
     .unassignedA9, .unassignedAA, .unassignedAB, .unassignedAC, .unassignedAD, .unassignedAE, .unassignedAF
    ] : List Instr).map .ok := by decide

theorem test_decode_row_B :
    [
     decode [0xB0], decode [0xB1], decode [0xB2], decode [0xB3], decode [0xB4], decode [0xB5], decode [0xB6],
     decode [0xB7], decode [0xB8], decode [0xB9], decode [0xBA], decode [0xBB], decode [0xBC], decode [0xBD],
     decode [0xBE], decode [0xBF]
    ] = ([
     .unassignedB0, .unassignedB1, .unassignedB2, .unassignedB3, .unassignedB4, .unassignedB5, .unassignedB6,
     .unassignedB7, .unassignedB8, .unassignedB9, .unassignedBA, .unassignedBB, .unassignedBC, .unassignedBD,
     .unassignedBE, .unassignedBF
    ] : List Instr).map .ok := by decide

theorem test_decode_row_C :
    [
     decode [0xC0], decode [0xC1], decode [0xC2], decode [0xC3], decode [0xC4], decode [0xC5], decode [0xC6],
     decode [0xC7], decode [0xC8], decode [0xC9], decode [0xCA], decode [0xCB], decode [0xCC], decode [0xCD],
     decode [0xCE], decode [0xCF]
    ] = ([
     .unassignedC0, .unassignedC1, .unassignedC2, .unassignedC3, .unassignedC4, .unassignedC5, .unassignedC6,
     .unassignedC7, .unassignedC8, .unassignedC9, .unassignedCA, .unassignedCB, .unassignedCC, .unassignedCD,
     .unassignedCE, .unassignedCF
    ] : List Instr).map .ok := by decide

theorem test_decode_row_D :
    [
     decode [0xD0], decode [0xD1], decode [0xD2], decode [0xD3], decode [0xD4], decode [0xD5], decode [0xD6],
     decode [0xD7], decode [0xD8], decode [0xD9], decode [0xDA], decode [0xDB], decode [0xDC], decode [0xDD],
     decode [0xDE], decode [0xDF]
    ] = ([
     .unassignedD0, .unassignedD1, .unassignedD2, .unassignedD3, .unassignedD4, .unassignedD5, .unassignedD6,
     .unassignedD7, .unassignedD8, .unassignedD9, .unassignedDA, .unassignedDB, .unassignedDC, .unassignedDD,
     .unassignedDE, .unassignedDF
    ] : List Instr).map .ok := by decide

theorem test_decode_row_E :
    [
     decode [0xE0], decode [0xE1], decode [0xE2], decode [0xE3], decode [0xE4], decode [0xE5], decode [0xE6],
     decode [0xE7], decode [0xE8], decode [0xE9], decode [0xEA], decode [0xEB], decode [0xEC], decode [0xED],
     decode [0xEE], decode [0xEF]
    ] = ([
     .unassignedE0, .unassignedE1, .unassignedE2, .unassignedE3, .unassignedE4, .unassignedE5, .unassignedE6,
     .unassignedE7, .unassignedE8, .unassignedE9, .unassignedEA, .unassignedEB, .unassignedEC, .unassignedED,
     .unassignedEE, .unassignedEF
    ] : List Instr).map .ok := by decide

theorem test_decode_row_F :
    [
     decode [0xF0], decode [0xF1], decode [0xF2], decode [0xF3], decode [0xF4], decode [0xF5], decode [0xF6],
     decode [0xF7], decode [0xF8], decode [0xF9], decode [0xFA], decode [0xFB], decode [0xFC], decode [0xFD],
     decode [0xFE], decode [0xFF]
    ] = ([
     .create, .call, .callcode, .ret, .delegatecall, .create2, .unassignedF6, .unassignedF7, .unassignedF8,
     .unassignedF9, .staticcall, .unassignedFB, .unassignedFC, .revert, .invalid, .selfdestruct
    ] : List Instr).map .ok := by decide

/-- PUSH1 to PUSH16 before the bytes 01, 02, … 20: the first n of them, most significant first (R82). -/
theorem test_decode_row_6 :
    [
     decode (0x60 :: count32), decode (0x61 :: count32), decode (0x62 :: count32), decode (0x63 :: count32),
     decode (0x64 :: count32), decode (0x65 :: count32), decode (0x66 :: count32), decode (0x67 :: count32),
     decode (0x68 :: count32), decode (0x69 :: count32), decode (0x6A :: count32), decode (0x6B :: count32),
     decode (0x6C :: count32), decode (0x6D :: count32), decode (0x6E :: count32), decode (0x6F :: count32)
    ] = ([
     .push1 0x01,
     .push2 0x0102,
     .push3 0x010203,
     .push4 0x01020304,
     .push5 0x0102030405,
     .push6 0x010203040506,
     .push7 0x01020304050607,
     .push8 0x0102030405060708,
     .push9 0x010203040506070809,
     .push10 0x0102030405060708090A,
     .push11 0x0102030405060708090A0B,
     .push12 0x0102030405060708090A0B0C,
     .push13 0x0102030405060708090A0B0C0D,
     .push14 0x0102030405060708090A0B0C0D0E,
     .push15 0x0102030405060708090A0B0C0D0E0F,
     .push16 0x0102030405060708090A0B0C0D0E0F10
    ] : List Instr).map .ok := by decide +kernel

/-- PUSH17 to PUSH32 before the bytes 01, 02, … 20: the first n of them, most significant first (R82). -/
theorem test_decode_row_7 :
    [
     decode (0x70 :: count32), decode (0x71 :: count32), decode (0x72 :: count32), decode (0x73 :: count32),
     decode (0x74 :: count32), decode (0x75 :: count32), decode (0x76 :: count32), decode (0x77 :: count32),
     decode (0x78 :: count32), decode (0x79 :: count32), decode (0x7A :: count32), decode (0x7B :: count32),
     decode (0x7C :: count32), decode (0x7D :: count32), decode (0x7E :: count32), decode (0x7F :: count32)
    ] = ([
     .push17 0x0102030405060708090A0B0C0D0E0F1011,
     .push18 0x0102030405060708090A0B0C0D0E0F101112,
     .push19 0x0102030405060708090A0B0C0D0E0F10111213,
     .push20 0x0102030405060708090A0B0C0D0E0F1011121314,
     .push21 0x0102030405060708090A0B0C0D0E0F101112131415,
     .push22 0x0102030405060708090A0B0C0D0E0F10111213141516,
     .push23 0x0102030405060708090A0B0C0D0E0F1011121314151617,
     .push24 0x0102030405060708090A0B0C0D0E0F101112131415161718,
     .push25 0x0102030405060708090A0B0C0D0E0F10111213141516171819,
     .push26 0x0102030405060708090A0B0C0D0E0F101112131415161718191A,
     .push27 0x0102030405060708090A0B0C0D0E0F101112131415161718191A1B,
     .push28 0x0102030405060708090A0B0C0D0E0F101112131415161718191A1B1C,
     .push29 0x0102030405060708090A0B0C0D0E0F101112131415161718191A1B1C1D,
     .push30 0x0102030405060708090A0B0C0D0E0F101112131415161718191A1B1C1D1E,
     .push31 0x0102030405060708090A0B0C0D0E0F101112131415161718191A1B1C1D1E1F,
     .push32 0x0102030405060708090A0B0C0D0E0F101112131415161718191A1B1C1D1E1F20
    ] : List Instr).map .ok := by decide +kernel

/-- A truncated immediate is completed with 0x00 on its low-order side (R83, D12; vectors `61ab`, `7f01`, `60`). -/
theorem test_decode_truncated_push :
    [decode [0x61, 0xAB], decode [0x7F, 0x01], decode [0x60], decode [0x63, 0xAB, 0xCD]] =
      ([.push2 0xAB00, .push32 (w (2 ^ 248)), .push1 0, .push4 0xABCD0000] : List Instr).map .ok := by decide +kernel

/-- Bytes past the instruction are not read (R81). -/
theorem test_decode_ignores_later_bytes :
    [decode [0x60, 0xAB, 0xFF], decode [0x01, 0xFF]] = ([.push1 0xAB, .add] : List Instr).map .ok := by decide

/-- No byte, no instruction (R92). -/
theorem test_decode_empty : decode [] = .error .endOfCode := by decide

/-- The bytes of an instruction (R80, R89): the source's programs `6003600401` and `600a60005200`. -/
theorem test_assemble :
    assemble [.push1 3, .push1 4, .add] = [0x60, 0x03, 0x60, 0x04, 0x01] ∧
      assemble [.push1 0x0A, .push1 0, .mstore, .stop] = [0x60, 0x0A, 0x60, 0x00, 0x52, 0x00] ∧
      encode (.push3 0x616263) = [0x62, 0x61, 0x62, 0x63] := by decide

/-- The table's words: the byte alone, and a PUSH whose operand bytes are beyond the bits the table gives. -/
theorem test_decodeTableWord :
    decodeTableWord 8 0x01 = some .add ∧ decodeTableWord 8 0xFE = some .invalid ∧
      decodeTableWord 8 0x61 = some (.push2 0) ∧ decodeTableWord 24 0x020161 = some (.push2 0x0102) := by
  decide +kernel

/-- The length of an instruction (the table's length column). -/
theorem test_length : Instr.length .stop = 1 ∧ Instr.length (.push1 0) = 2 ∧ Instr.length (.push32 0) = 33 := by decide

/-- A 0x5B in PUSH data is no jump target (R34, D10): the vector `600456605b5b` and `600456fe5b6007`. -/
theorem test_jumpdests :
    jumpdests [0x60, 0x04, 0x56, 0x60, 0x5B, 0x5B] = [5] ∧ jumpdests [0x60, 0x04, 0x56, 0xFE, 0x5B, 0x60, 0x07] = [4] ∧
      jumpdests [0x5B, 0x61, 0x5B] = [0] := by decide

/-! ### Arithmetic (vectors of section 2.1; the top is the first operand) -/

theorem test_add_wraps : after .add [neg 1, w 1] = left [w 0] := by decide +kernel
theorem test_add_keeps_what_is_below : after .add [w 4, w 3, w 9] = left [w 7, w 9] := by decide +kernel
theorem test_mul_wraps : after .mul [neg 1, neg 1] = left [w 1] := by decide +kernel
theorem test_mul : after .mul [w 6, w 7] = left [w 42] := by decide +kernel
theorem test_sub_takes_b_from_a : after .sub [w 3, w 10] = left [neg 7] := by decide +kernel
theorem test_div : after .div [neg 1, w 2] = left [w (2 ^ 255 - 1)] := by decide +kernel
theorem test_div_by_zero : after .div [w 7, w 0] = left [w 0] := by decide +kernel
theorem test_sdiv_truncates : after .sdiv [neg 7, w 2] = left [neg 3] := by decide +kernel
theorem test_sdiv_least_by_minus_one : after .sdiv [w (2 ^ 255), neg 1] = left [w (2 ^ 255)] := by decide +kernel
theorem test_mod : after .mod [w 7, w 3] = left [w 1] := by decide +kernel
theorem test_mod_by_zero : after .mod [w 7, w 0] = left [w 0] := by decide +kernel
theorem test_smod_follows_the_dividend : after .smod [neg 7, w 3] = left [neg 1] := by decide +kernel
theorem test_smod_negative_divisor : after .smod [w 7, neg 3] = left [w 1] := by decide +kernel
theorem test_exp_base_is_the_top : after .exp [w 10, w 18] = left [w 0xDE0B6B3A7640000] := by decide +kernel
theorem test_exp_long_exponent :
    after .exp [w 3, neg 1] =
      left [w 0xAAAAAAAAAAAAAAAAAAAAAAAAAAAAAAAAAAAAAAAAAAAAAAAAAAAAAAAAAAAAAAAB] := by decide +kernel
theorem test_signextend_truncates_and_extends : after .signextend [w 0, w 0x1FF80] = left [neg 128] := by decide +kernel
theorem test_signextend_large_index : after .signextend [w 32, w 0x80] = left [w 0x80] := by decide +kernel

/-! ### Comparison, bitwise and shifts (sections 2.2 to 2.4) -/

theorem test_lt_unsigned : after .lt [neg 1, w 0] = left [w 0] := by decide +kernel
theorem test_gt_unsigned : after .gt [neg 1, w 0] = left [w 1] := by decide +kernel
theorem test_slt_signed : after .slt [w (2 ^ 255), w (2 ^ 255 - 1)] = left [w 1] := by decide +kernel
theorem test_sgt_signed : after .sgt [w 1, neg 1] = left [w 1] := by decide +kernel
theorem test_eq : after .eq [w 0, neg 1] = left [w 0] ∧ after .eq [w 5, w 5] = left [w 1] := by decide +kernel
theorem test_iszero : after .iszero [w 0] = left [w 1] ∧ after .iszero [neg 1] = left [w 0] := by decide +kernel
theorem test_and : after .and [w 0xF0F0, w 0xFF00] = left [w 0xF000] := by decide +kernel
theorem test_or : after .or [w 0xF0F0, w 0xFF00] = left [w 0xFFF0] := by decide +kernel
theorem test_xor : after .xor [w 0xF0F0, w 0xFF00] = left [w 0xFF0] := by decide +kernel
theorem test_not : after .not [w 0xFF] = left [neg 256] := by decide +kernel
theorem test_shl_drops_high_bits : after .shl [w 4, neg 1] = left [neg 16] := by decide +kernel
theorem test_shl_by_256 : after .shl [w 256, w 1] = left [w 0] := by decide +kernel
theorem test_shr_fills_zero : after .shr [w 255, w (2 ^ 255)] = left [w 1] := by decide +kernel
theorem test_shr_by_256 : after .shr [w 256, neg 1] = left [w 0] := by decide +kernel
theorem test_sar_rounds_down : after .sar [w 4, neg 17] = left [neg 2] := by decide +kernel
theorem test_sar_large_amount :
    after .sar [w 256, w (2 ^ 255)] = left [neg 1] ∧ after .sar [w (2 ^ 255), w 5] = left [w 0] := by decide +kernel

/-! ### Stack (section 2.6) -/

theorem test_pop : after .pop [w 2, w 1] = left [w 1] := by decide +kernel
/-- PUSH1 0xFF and PUSH32 0 pass their own length (R172; vectors `60ff` and PC after PUSH32). -/
theorem test_push_advances_by_its_length :
    stackOf (exec (.push1 0xFF) State.reset) = left [w 0xFF] ∧
      (control (exec (.push1 0xFF) State.reset)).map Control.pc = some 2 ∧
      (control (exec (.push32 0) State.reset)).map Control.pc = some 33 := by decide +kernel
theorem test_dup2 : after .dup2 [w 2, w 1] = left [w 1, w 2, w 1] := by decide +kernel
theorem test_dup16 :
    after .dup16 ((List.range 16).map w) = left (w 15 :: (List.range 16).map w) ∧
      after .dup16 ((List.range 15).map w) = some ((List.range 15).map w, .invalid) := by decide +kernel
theorem test_swap2 : after .swap2 [w 3, w 2, w 1] = left [w 1, w 2, w 3] := by decide +kernel
theorem test_swap16 :
    after .swap16 ((List.range 17).map w) = left (w 16 :: ((List.range 15).map fun k => w (k + 1)) ++ [w 0]) ∧
      after .swap16 ((List.range 16).map w) = some ((List.range 16).map w, .invalid) := by decide +kernel

/-! ### Memory (section 2.7) -/

/-- MSTORE of 0x0102 at 1: the last byte lands at 32 and memory grows to 64; MLOAD at 32 then reads 2^249. -/
theorem test_mstore_straddles :
    stackOf ((fun r => match r with
      | .next t => exec .mload { t with stack := [w 32] }
      | r => r) (exec .mstore (withStack [w 1, w 0x0102]))) = left [w (2 ^ 249)] := by decide +kernel
/-- MSTORE at 0x0FFFE0 ends at the ceiling 2^20, at 0x0FFFE1 past it. -/
theorem test_mstore_at_the_ceiling :
    [0x0FFFE0, 0x0FFFE1].map (fun n => control (exec .mstore (withStack [w n, w 1]))) =
      [some ⟨1, 2 ^ 20, .running, .noFault, []⟩, some ⟨0, 0, .invalid, .memoryOutOfBounds, []⟩] := by decide +kernel
/-- MLOAD at 33 grows memory to 96. -/
theorem test_mload_grows : control (exec .mload (withStack [w 33])) = some ⟨1, 96, .running, .noFault, []⟩ := by
  decide +kernel
theorem test_mload_far_offset :
    control (exec .mload (withStack [w (2 ^ 255)])) = some ⟨0, 0, .invalid, .memoryOutOfBounds, []⟩ := by decide +kernel
/-- MSTORE8 of 0x1234 at 31: the low byte 0x34 is the Word's last byte. -/
theorem test_mstore8_low_byte :
    nextOf (exec .mstore8 (withStack [w 31, w 0x1234])) =
      some { State.reset with mem := { len := 32, cells := [(31, 0x34)] }, pc := 1 } := by decide +kernel
/-- The canonical form: a 0x00 written removes the entry. -/
theorem test_setCell_removes_zero :
    setCell 5 0 [(3, 1), (5, 2), (9, 3)] = [(3, 1), (9, 3)] ∧ setCell 4 7 [(3, 1), (5, 2)] = [(3, 1), (4, 7), (5, 2)] := by
  decide +kernel
theorem test_msize :
    stackOf (exec .msize { State.reset with mem := { len := 64, cells := [] } }) = left [w 64] := by decide +kernel

/-! ### Control flow (section 2.8) -/

theorem test_jump :
    control (exec .jump { withCode [0x60, 0x04, 0x56, 0xFE, 0x5B, 0x60, 0x07] with stack := [w 4], pc := 2 }) =
      some ⟨4, 0, .running, .noFault, []⟩ := by decide +kernel
/-- JUMP into PUSH data: the bad target stays on the stack and pc stays 2. -/
theorem test_jump_into_push_data :
    nextOf (exec .jump { withCode [0x60, 0x04, 0x56, 0x60, 0x5B, 0x5B] with stack := [w 4], pc := 2 }) =
      some { withCode [0x60, 0x04, 0x56, 0x60, 0x5B, 0x5B] with
        stack := [w 4], pc := 2, halt := .invalid, fault := .invalidJumpDestination } := by decide +kernel
/-- The target is compared as a full Word (R256). -/
theorem test_jump_compares_the_whole_word :
    (control (exec .jump { withCode [0x5B] with stack := [w (2 ^ 255)] })).map (fun c => c.fault) =
      some .invalidJumpDestination := by decide +kernel
theorem test_jumpi_taken :
    control (exec .jumpi { withCode [0x5B, 0x57] with stack := [w 0, neg 1], pc := 1 }) =
      some ⟨0, 0, .running, .noFault, []⟩ := by decide +kernel
theorem test_jumpi_not_taken_bad_target :
    control (exec .jumpi { withCode [0x5B, 0x57] with stack := [w 0xEE, w 0], pc := 1 }) =
      some ⟨2, 0, .running, .noFault, []⟩ := by decide +kernel
theorem test_pc : stackOf (exec .pc { State.reset with pc := 3 }) = left [w 3] := by decide +kernel
theorem test_jumpdest : nextOf (exec .jumpdest (withStack [w 1])) = some { withStack [w 1] with pc := 1 } := by decide +kernel

/-! ### Hashing (section 2.9; the digests are R260's) -/

theorem test_sha3_empty :
    after .sha3 [w 0, w 0] =
      left [w 0xC5D2460186F7233C927E7DB2DCC703C0E500B653CA82273B7BFAD8045D85A470] := by decide +kernel
theorem test_sha3_zero_size_expands :
    [true, false].map (fun z =>
      control (exec .sha3 { withStack [w 100, w 0] with params := { Params.default with zeroSizeExpands := z } })) =
      [some ⟨1, 128, .running, .noFault, []⟩, some ⟨1, 0, .running, .noFault, []⟩] := by decide +kernel
theorem test_keccak_32_zero_bytes :
    be (keccak256 (List.replicate 32 0)) =
      0x290DECD9548B62A8D60345A988386FC84BA6BC95484008F6362F93160EF3E563 := by decide +kernel
theorem test_keccak_abc :
    be (keccak256 [0x61, 0x62, 0x63]) =
      0x4E03657AEA45A94FC7D47BA826C8D667C0D1E6E33A64A036EC44F58FA12D6C45 := by decide +kernel

/-! ### Environment (section 2.10) -/

theorem test_environment_reads :
    ([.address, .caller, .origin, .callvalue, .chainid, .coinbase, .number, .timestamp, .gaslimit, .calldatasize,
      .returndatasize] : List Instr).map (fun i => stackOf (exec i inEnv)) =
    [0xDEADBEEF, 0x1234, 0xABCD, 0xDE0B6B3A7640000, 1, 0xC0FFEE, 0x1036640, 0x6553F100, 0x1C9C380, 3, 0].map
      (fun n => left [w n]) := by decide +kernel
theorem test_calldataload :
    [0, 1, 3, 2 ^ 255].map (fun n => stackOf (exec .calldataload { inEnv with stack := [w n] })) =
    [0x010203 * 2 ^ 232, 0x0203 * 2 ^ 240, 0, 0].map (fun n => left [w n]) := by decide +kernel
theorem test_account_lookups :
    after .balance [w 5] = left [w 0] ∧ after .extcodesize [w 5] = left [w 0] ∧
      after .balance [] = some ([], .invalid) := by decide +kernel

/-! ### Halting, INVALID, class U and class X (section 2.11) -/

theorem test_stop : nextOf (exec .stop (withStack [w 1])) = some { withStack [w 1] with halt := .stopped } := by decide +kernel
/-- RETURN of 4 bytes at 60 grows memory to 64; the return data is four zero bytes; the Word below stays. -/
theorem test_return :
    nextOf (exec .ret (withStack [w 60, w 4, w 7])) =
      some { withStack [w 7] with mem := { len := 64, cells := [] }, halt := .returned, rd := [0, 0, 0, 0] } := by decide +kernel
theorem test_revert_reads_memory :
    nextOf (exec .revert { withStack [w 31, w 1] with mem := { len := 32, cells := [(31, 0x2A)] } }) =
      some { State.reset with mem := { len := 32, cells := [(31, 0x2A)] }, halt := .reverted, rd := [0x2A] } := by decide +kernel
theorem test_invalid_keeps_the_stack :
    nextOf (exec .invalid (withStack [w 2, w 1])) =
      some { withStack [w 2, w 1] with halt := .invalid, fault := .invalidOpcode } := by decide +kernel
theorem test_unassigned :
    nextOf (exec .unassigned0C (withStack [w 1])) =
      some { withStack [w 1] with halt := .invalid, fault := .invalidOpcode } := by decide +kernel
/-- The class X byte GAS under both values of UNLISTED_CLASS. -/
theorem test_gas :
    exec .gas (withStack [w 1]) = .next { withStack [w 1] with refused := true } ∧
      control (exec .gas { State.reset with params := { Params.default with unlistedClass := .invalidOpcode } }) =
        some ⟨0, 0, .invalid, .invalidOpcode, []⟩ := ⟨rfl, rfl⟩
/-- The 3-bit codes of R28 and R290. -/
theorem test_codes :
    [HaltReason.running, .stopped, .returned, .reverted, .invalid].map HaltReason.code = [0, 1, 2, 3, 4] ∧
      [FaultKind.noFault, .stackUnderflow, .stackOverflow, .invalidJumpDestination, .memoryOutOfBounds,
        .invalidOpcode].map FaultKind.code = [0, 1, 2, 3, 4, 5] := by decide

/-! ### The step -/

/-- The empty code stops at once (vector "empty code"). -/
theorem test_step_from_reset : nextOf (step State.reset) = some { State.reset with halt := .stopped } := by decide +kernel
/-- `7f01` pushes 2^248 and leaves pc at 33, past the code (R26). -/
theorem test_step_truncated_push32 :
    nextOf (step (withCode [0x7F, 0x01])) = some { withCode [0x7F, 0x01] with stack := [w (2 ^ 248)], pc := 33 } := by decide +kernel
/-- The host's placement makes the next step run the instruction (PUSH2 0x0102; a JUMPDEST is a target). -/
theorem test_withFetchWord :
    stackOf (step (State.reset.withFetchWord 24 0x020161)) = left [w 0x0102] ∧
      (State.reset.withFetchWord 8 0x5B).jd = [0] := by decide +kernel
theorem test_terminal_state_has_no_step :
    step { State.reset with halt := .returned } = .fault (.terminated .returned) := rfl
theorem test_refused_state_has_no_step :
    step { State.reset with refused := true } = .refused .refusalMark := rfl
theorem test_outputs :
    ({ withStack [w 2, w 1] with halt := .invalid, fault := .invalidOpcode } : State).outputs =
      some { stackOut := [w 1, w 2], memOut := [], rdOut := [], haltOut := 4, faultOut := 5 } := by decide +kernel
theorem test_create_refuses_a_long_code :
    create { Params.default with codeMax := 1 } [0x01, 0x01] [] Env.zero = none := by decide

/-! ### Witnesses: the hypotheses of each statement can be met -/

/-- A running state in the invariant, at an ADD with two operands. -/
def adding : State := { withCode [0x01] with stack := [w 4, w 3] }

theorem adding_inv : adding.Inv where
  params := by decide +kernel
  depth := by decide
  memory := by decide
  ceiling := by decide +kernel
  targets := by decide
  codeBound := by decide +kernel
  calldataBound := by decide +kernel
  calldataSize := by decide
  pcBound := by decide
  faultKind := by decide
  returnData := by decide
  refusal := by decide

/-- A full stack. -/
def full : List Word := List.replicate 1024 0

theorem full_length : full.length = 1024 := List.length_replicate

/-- A state of a run: a created one whose code is one JUMPDEST. -/
theorem reachable_at_jumpdest : Reachable (withCode [0x5B]) :=
  .created (p := Params.default) (code := [0x5B]) (calldata := []) (env := Env.zero) (by decide +kernel)

/-- The state one step later. -/
theorem reachable_past_jumpdest : Reachable { withCode [0x5B] with pc := 1 } :=
  .stepped reachable_at_jumpdest rfl

/-- Parameters outside R10; the least ceiling with the inputs at their bounds. -/
theorem witness_CreateIsDefinedExactlyOnAcceptedInputs :
    ¬ ({ Params.default with memCeiling := 992 } : Params).valid ∧
      ({ Params.default with memCeiling := 1024, codeMax := 1, calldataMax := 0 } : Params).valid ∧
      [(0x01 : Byte)].length ≤ 1 ∧ ([] : List Byte).length ≤ 0 := by decide +kernel

theorem witness_StepKeepsTheInvariant : ∃ t, adding.Inv ∧ step adding = .next t :=
  ⟨_, adding_inv, rfl⟩

theorem witness_EveryReachableStateSatisfiesTheInvariant : Reachable { withCode [0x5B] with pc := 1 } :=
  reachable_past_jumpdest

theorem witness_DecodeOfEncodeIsTheInstruction :
    Instr.wellFormed (.push32 (neg 1)) = true ∧ Instr.wellFormed (.push1 0xFF) = true ∧
      Instr.wellFormed .stop = true := by decide +kernel

theorem witness_EncodeOfDecodeIsThePaddedBytes :
    decode [0x61, 0xAB] = .ok (.push2 0xAB00) ∧ decode [0xFF, 0x00] = .ok .selfdestruct := by decide +kernel

theorem witness_StepRunsTheDecodedInstruction :
    adding.halt = .running ∧ adding.refused = false ∧ decode (adding.code.drop adding.pc) = .ok .add := by decide

/-- pc at the length of the code, and beyond it. -/
theorem witness_StepPastTheCodeStops :
    State.reset.halt = .running ∧ State.reset.refused = false ∧ State.reset.code.length ≤ State.reset.pc ∧
      ({ State.reset with pc := 33 } : State).code.length ≤ 33 := by decide

theorem witness_TerminalAndRefusedStatesHaveNoSuccessor :
    ({ State.reset with halt := .stopped } : State).refused = false ∧
      ({ State.reset with halt := .stopped } : State).halt ≠ .running ∧
      ({ State.reset with refused := true } : State).refused = true := by decide

theorem witness_StepWritesNoInput : ∃ t, step adding = .next t := ⟨_, rfl⟩

/-- Before the MLOAD of PUSH1 0, MLOAD. -/
def loading : State := { withCode [0x60, 0x00, 0x51] with stack := [w 0], pc := 2 }

theorem reachable_loading : Reachable loading :=
  .stepped (.created (p := Params.default) (code := [0x60, 0x00, 0x51]) (calldata := []) (env := Env.zero) rfl) rfl

/-- Memory grows from 0 to 32: the first and the last new byte. -/
theorem witness_MemoryLengthIsAMultipleOf32AndNeverDecreases :
    Reachable loading ∧ create Params.default [0x5B] [] Env.zero = some (withCode [0x5B]) ∧
      ∃ t, step loading = .next t ∧ loading.mem.len ≤ 0 ∧ 31 < t.mem.len :=
  ⟨reachable_loading, by decide +kernel, { loading with stack := [w 0], mem := { len := 32, cells := [] }, pc := 3 },
    rfl, by decide, by decide⟩

theorem witness_TooFewOperandsRaiseStackUnderflow :
    (withStack [w 1]).stack.length < Instr.minDepth .add ∧ (withStack []).stack.length < Instr.minDepth .pop ∧
      (withStack ((List.range 16).map w)).stack.length < Instr.minDepth .swap16 := by decide

theorem witness_FullStackRaisesStackOverflow :
    Instr.growsStack .dup16 = true ∧ Instr.growsStack .pc = true ∧ (withStack full).stack.length = 1024 ∧
      Instr.growsStack .pop = false ∧ exec .jumpdest (withStack full) = .next { withStack full with pc := 1 } ∧
      (withStack full).fault ≠ .stackOverflow ∧ Instr.growsStack .jumpdest = false :=
  ⟨rfl, rfl, full_length, rfl, rfl, by decide, rfl⟩

theorem witness_FaultsAreAtomic :
    ∃ t, (withStack [w 5]).halt = .running ∧ exec .mul (withStack [w 5]) = .next t ∧ t.halt = .invalid :=
  ⟨_, rfl, rfl, rfl⟩

/-- One witness for each fault kind. -/
theorem witness_FaultsHaveOnlyTheirCauses :
    ([(exec .mul (withStack [w 5])), (exec .jump (withStack [w 5])), (exec .mload (withStack [neg 1])),
      (exec .invalid State.reset)].map fun r => (control r).map fun c => (c.halt, c.fault)) =
      [.stackUnderflow, .invalidJumpDestination, .memoryOutOfBounds, .invalidOpcode].map
        (fun k => some (HaltReason.invalid, k)) ∧
    ∃ t, exec .pc (withStack full) = .next t ∧ t.halt = .invalid ∧ t.fault = .stackOverflow := by
  refine ⟨by decide +kernel, (withStack full).raise .stackOverflow, ?_, rfl, rfl⟩
  have h (st : List Word) (hf : 1024 ≤ st.length) :
      exec .pc (withStack st) = .next ((withStack st).raise .stackOverflow) := pushWord_of_full hf _ _
  exact h full (Nat.le_of_eq full_length.symm)

/-- Going on, a jump, a JUMPI taken and not, a halt and a refusal. -/
theorem witness_PcFollowsItsTable :
    Jumps .jump { withCode [0x5B] with stack := [w 0] } (w 0) ∧ Jumps .jumpi (withStack [w 0, w 1]) (w 0) ∧
      (¬ ∃ d, Jumps .jumpi (withStack [w 0, w 0]) d) ∧
      (control (exec .jumpi (withStack [w 0, w 0]))).map (fun c => c.halt) = some .running ∧
      adding.halt = .running ∧ adding.refused = false ∧
      (control (exec .add adding)).map (fun c => c.halt) = some .running ∧
      (control (exec .jump { withCode [0x5B] with stack := [w 0] })).map (fun c => c.halt) = some .running ∧
      (control (exec .stop adding)).map (fun c => c.halt) = some .stopped ∧
      exec .gas adding = .next { adding with refused := true } :=
  ⟨.jump rfl, .jumpi rfl (by decide +kernel), fun ⟨_, h⟩ => by cases h with | jumpi hs hc => cases hs; exact hc rfl,
    by decide +kernel, rfl, rfl, by decide +kernel, by decide +kernel, by decide +kernel, rfl⟩

theorem witness_HaltReasonsComeFromTheirInstructions :
    [exec .stop State.reset, exec .ret (withStack [w 0, w 0]), exec .revert (withStack [w 0, w 0])].map
      (fun r => (control r).map fun c => c.halt) = [.stopped, .returned, .reverted].map some := by decide +kernel

theorem witness_AddWraps :
    (withStack [neg 1, w 1]).stack = neg 1 :: w 1 :: [] ∧ (withStack [w 1]).stack.length < 2 := ⟨rfl, by decide⟩

/-- A divisor 0 and one that is not. -/
theorem witness_MulSubDivAndMod :
    (withStack [w 7, w 0]).stack = w 7 :: w 0 :: [] ∧ w 0 = 0 ∧ (withStack [w 7, w 2]).stack = w 7 :: w 2 :: [] ∧
      w 2 ≠ 0 := ⟨rfl, by decide, rfl, by decide +kernel⟩

theorem witness_SdivAndSmodAreTruncatedDivision :
    (withStack [w (2 ^ 255), neg 1]).stack = w (2 ^ 255) :: neg 1 :: [] ∧ neg 1 ≠ 0 := ⟨rfl, by decide +kernel⟩

theorem witness_SdivAndSmodRecomposeTheDividend :
    (withStack [neg 7, w 2]).stack = neg 7 :: w 2 :: [] ∧ w 2 ≠ 0 := ⟨rfl, by decide +kernel⟩

theorem witness_ExpIsTheExactPowerModulo : (withStack [w 0, w 0]).stack = w 0 :: w 0 :: [] := rfl

/-- The last index that extends and the first that does not. -/
theorem witness_SignextendCopiesTheSignBit :
    (withStack [w 30, neg 1]).stack = w 30 :: neg 1 :: [] ∧ (w 30).toNat = 30 ∧
      (withStack [w 31, neg 1]).stack = w 31 :: neg 1 :: [] ∧ 31 ≤ (w 31).toNat := ⟨rfl, by decide +kernel, rfl, by decide +kernel⟩

theorem witness_ComparisonsPushOneOrZero :
    (withStack [w 1, w 2]).stack = w 1 :: w 2 :: [] ∧ (withStack [w 0]).stack = w 0 :: [] := ⟨rfl, rfl⟩

theorem witness_BitwiseOperatorsActOnEveryBit :
    (withStack [w 1, w 2]).stack = w 1 :: w 2 :: [] ∧ (withStack [w 0]).stack = w 0 :: [] := ⟨rfl, rfl⟩

/-- The amounts 255 and 256. -/
theorem witness_ShlAndShrAreLogicalShifts :
    (withStack [w 255, w 1]).stack = w 255 :: w 1 :: [] ∧ (w 255).toNat < 256 ∧
      (withStack [w 256, w 1]).stack = w 256 :: w 1 :: [] ∧ 256 ≤ (w 256).toNat :=
  ⟨rfl, by decide +kernel, rfl, by decide +kernel⟩

/-- The amounts 255 and 256, the latter with each sign. -/
theorem witness_SarRoundsDown :
    (withStack [w 255, neg 1]).stack = w 255 :: neg 1 :: [] ∧ (w 255).toNat < 256 ∧
      (withStack [w 256, neg 1]).stack = w 256 :: neg 1 :: [] ∧ 256 ≤ (w 256).toNat ∧
      (neg 1).getLsbD 255 = true ∧ (w 1).getLsbD 255 = false ∧ (withStack [w 1]).stack.length < 2 :=
  ⟨rfl, by decide +kernel, rfl, by decide +kernel, by decide +kernel, by decide +kernel, by decide⟩

theorem witness_SarCopiesTheSignBit : (withStack [neg 1, neg 1]).stack = neg 1 :: neg 1 :: [] := rfl

theorem witness_PopDiscardsTheTopAndJumpdestOnlyAdvances : (withStack [w 1]).stack = w 1 :: [] := rfl

theorem witness_PushPushesItsImmediate :
    Instr.immediate (.push32 (neg 1)) = some (32, neg 1) ∧ Instr.immediate (.push1 0) = some (1, 0) ∧
      State.reset.stack.length < 1024 := ⟨rfl, rfl, by decide⟩

/-- PUSH1 and PUSH32, with room and with a full stack. -/
theorem witness_StepPushReadsItsImmediateFromTheCode :
    (withCode [0x60]).halt = .running ∧ (withCode [0x60]).refused = false ∧
      (withCode [0x60]).code[0]? = some (BitVec.ofNat 8 (0x5F + 1)) ∧
      (withCode [0x7F]).code[0]? = some (BitVec.ofNat 8 (0x5F + 32)) ∧
      (withCode [0x60]).stack.length < 1024 ∧ 1024 ≤ ({ withCode [0x60] with stack := full } : State).stack.length :=
  ⟨rfl, rfl, by decide +kernel, by decide +kernel, by decide, Nat.le_of_eq full_length.symm⟩

theorem witness_DupCopies :
    dupInstrs[0]? = some .dup1 ∧ dupInstrs[15]? = some .dup16 ∧ (withStack []).stack.length < 1 ∧
      (withStack full).stack.length = 1024 ∧ (withStack [w 5]).stack[0]? = some (w 5) ∧
      (withStack [w 5]).stack.length < 1024 :=
  ⟨rfl, rfl, by decide, full_length, rfl, by decide⟩

theorem witness_SwapExchanges :
    swapInstrs[0]? = some .swap1 ∧ swapInstrs[15]? = some .swap16 ∧ (withStack [w 1]).stack.length < 0 + 2 ∧
      0 + 2 ≤ (withStack [w 2, w 1]).stack.length := ⟨rfl, rfl, by decide, by decide⟩

theorem witness_SwapTwiceRestoresTheStack :
    swapInstrs[15]? = some .swap16 ∧ 15 + 2 ≤ (withStack ((List.range 17).map w)).stack.length := ⟨rfl, by decide⟩

/-- The last offset in bounds. -/
theorem witness_MloadReadsTheWordBigEndian :
    (withStack [w (2 ^ 20 - 32)]).stack = w (2 ^ 20 - 32) :: [] ∧
      (w (2 ^ 20 - 32)).toNat + 32 ≤ (withStack [w (2 ^ 20 - 32)]).params.memCeiling := ⟨rfl, by decide +kernel⟩

/-- The last offset in bounds, the first past it, and too few operands. -/
theorem witness_MstoreStoresTheWordBigEndian :
    (withStack [w (2 ^ 20 - 32), w 1]).mem.wf = true ∧
      (withStack [w (2 ^ 20 - 32), w 1]).stack = w (2 ^ 20 - 32) :: w 1 :: [] ∧
      (w (2 ^ 20 - 32)).toNat + 32 ≤ State.reset.params.memCeiling ∧
      State.reset.params.memCeiling < (w (2 ^ 20 - 31)).toNat + 32 ∧ (withStack [w 1]).stack.length < 2 :=
  ⟨by decide, rfl, by decide +kernel, by decide +kernel, by decide⟩

theorem witness_Mstore8StoresTheLowByte :
    (withStack [w (2 ^ 20 - 1), w 1]).mem.wf = true ∧
      (withStack [w (2 ^ 20 - 1), w 1]).stack = w (2 ^ 20 - 1) :: w 1 :: [] ∧
      (w (2 ^ 20 - 1)).toNat + 1 ≤ State.reset.params.memCeiling := ⟨by decide, rfl, by decide +kernel⟩

theorem witness_MloadAfterMstoreReturnsTheWord :
    (withStack [w 33, neg 1]).mem.wf = true ∧ (withStack [w 33, neg 1]).stack = w 33 :: neg 1 :: [] ∧
      (w 33).toNat + 32 ≤ State.reset.params.memCeiling := ⟨by decide, rfl, by decide +kernel⟩

theorem witness_MixedWidthAccessesSeeBytes :
    (withStack [w 33, neg 1]).mem.wf = true ∧ (withStack [w 33, neg 1]).stack = w 33 :: neg 1 :: [] ∧
      (w 33).toNat + 32 ≤ State.reset.params.memCeiling ∧ (w 33).toNat + 31 < 2 ^ 256 :=
  ⟨by decide, rfl, by decide +kernel, by decide +kernel⟩

theorem witness_MsizeAndPcPushTheirNumbers :
    State.reset.stack.length < 1024 ∧ State.reset.mem.len < 2 ^ 256 ∧ State.reset.pc < 2 ^ 256 := by decide +kernel

/-- Each access one past the ceiling, the range accesses with size 1 and with size 0. -/
theorem witness_OutOfBoundsAccessesFault :
    State.reset.params.memCeiling < (w (2 ^ 20 - 31)).toNat + 32 ∧
      State.reset.params.memCeiling < (w (2 ^ 20)).toNat + 1 ∧
      State.reset.params.memCeiling < (w (2 ^ 20)).toNat + (w 1).toNat ∧ w 1 ≠ 0 ∧
      State.reset.params.memCeiling < (w (2 ^ 20 + 1)).toNat + (w 0).toNat ∧
      State.reset.params.zeroSizeExpands = true ∧
      (withStack [w (2 ^ 20), w 1]).stack = w (2 ^ 20) :: w 1 :: [] :=
  ⟨by decide +kernel, by decide +kernel, by decide +kernel, by decide +kernel, by decide +kernel, by decide, rfl⟩

/-- An access that grows memory, one of size 0 that does, and one of size 0 that does not. -/
theorem witness_ExpansionIsTheLeastMultipleOf32 :
    Memory.empty.len % 32 = 0 ∧ Memory.empty.expand Params.default 33 1 = some { len := 64, cells := [] } ∧
      Memory.empty.expand Params.default 33 0 = some { len := 64, cells := [] } ∧
      Memory.empty.expand { Params.default with zeroSizeExpands := false } 33 0 = some Memory.empty := by decide +kernel

theorem witness_CanonicalMemoriesWithEqualBytesAreEqual :
    ∃ m m' : Memory, m.wf = true ∧ m'.wf = true ∧ m.len = m'.len ∧ (∀ a, m.readByte a = m'.readByte a) ∧ m.len ≤ 32 :=
  ⟨{ len := 32, cells := [(31, 0x2A)] }, { len := 32, cells := [(31, 0x2A)] }, by decide, by decide, rfl,
    fun _ => rfl, Nat.le_refl _⟩

theorem witness_JumpGoesExactlyToItsTargets :
    (w 0).toNat ∈ (withCode [0x5B]).jd ∧ (w 1).toNat ∉ (withCode [0x5B]).jd ∧
      ({ withCode [0x5B] with stack := [w 0] } : State).stack = w 0 :: [] := ⟨by decide +kernel, by decide +kernel, rfl⟩

theorem witness_JumpiJumpsOnlyOnANonzeroCondition :
    w 0 = 0 ∧ w 1 ≠ 0 ∧ (w 0).toNat ∈ (withCode [0x5B]).jd ∧ (w 1).toNat ∉ (withCode [0x5B]).jd ∧
      ({ withCode [0x5B] with stack := [w 0, w 1] } : State).stack = w 0 :: w 1 :: [] :=
  ⟨by decide, by decide +kernel, by decide +kernel, by decide +kernel, rfl⟩

theorem witness_RunsStayOnOpcodePositions : Reachable { withCode [0x5B] with pc := 1 } := reachable_past_jumpdest

theorem witness_StepKeepsPcOnOpcodePositions :
    adding.jd = jumpdests adding.code ∧ OpcodePosition adding.code adding.pc ∧ (∃ t, step adding = .next t) ∧
      create Params.default [0x5B] [] Env.zero = some (withCode [0x5B]) :=
  ⟨rfl, .first, ⟨_, rfl⟩, by decide +kernel⟩

/-- A range that ends at the ceiling, and one of size 0. -/
theorem witness_Sha3PushesTheDigestOfTheRange :
    (withStack [w (2 ^ 20 - 1), w 1]).stack = w (2 ^ 20 - 1) :: w 1 :: [] ∧
      InBounds State.reset.params (w (2 ^ 20 - 1)).toNat (w 1).toNat ∧
      InBounds { Params.default with zeroSizeExpands := false } (neg 1).toNat (w 0).toNat :=
  ⟨rfl, by decide +kernel, by decide +kernel⟩

theorem witness_EnvironmentReadsPushTheirFields :
    inEnv.stack.length < 1024 ∧ inEnv.env.calldatasize < 2 ^ 256 ∧ (withStack [w 5]).stack = w 5 :: [] :=
  ⟨by decide, by decide +kernel, rfl⟩

theorem witness_CalldataloadReads32BytesZeroFilled :
    ({ inEnv with stack := [neg 1] } : State).stack = neg 1 :: [] := rfl

theorem witness_CalldataIsReadOnlyByItsTwoInstructions :
    Instr.add ≠ .calldataload ∧ Instr.add ≠ .calldatasize ∧ ∃ t, exec .add adding = .next t :=
  ⟨by decide, by decide, _, rfl⟩

theorem witness_StopHalts :
    State.reset.halt = .running ∧ State.reset.refused = false ∧ State.reset.code.length ≤ State.reset.pc := by decide

theorem witness_ReturnAndRevertHaltWithTheRange :
    (withStack [w (2 ^ 20 - 1), w 1]).stack = w (2 ^ 20 - 1) :: w 1 :: [] ∧
      InBounds State.reset.params (w (2 ^ 20 - 1)).toNat (w 1).toNat := ⟨rfl, by decide +kernel⟩

theorem witness_InvalidAndUnassignedBytesRaiseInvalidOpcode :
    Instr.opClass .unassigned0C = .unassigned ∧ Instr.opClass .unassignedFC = .unassigned ∧
      Instr.opClass .gas = .unlisted ∧
      ({ Params.default with unlistedClass := .invalidOpcode } : Params).unlistedClass = .invalidOpcode := by decide

theorem witness_ClassXBytesSetTheRefusalMark :
    Instr.opClass .gas = .unlisted ∧ State.reset.params.unlistedClass = .refused ∧ State.reset.halt = .running := by
  decide

theorem witness_OutputsAreDefinedExactlyAtAHalt :
    State.reset.halt = .running ∧ ({ State.reset with halt := .stopped } : State).halt ≠ .running := by decide

/-- The counts of spec/30_encoding.md: 114 class A rows, 107 class U, 35 class X. -/
theorem test_class_counts :
    [OpClass.admitted, .unassigned, .unlisted].map (fun c =>
      ((List.range 256).filter fun n => (instrOf (BitVec.ofNat 8 n) 0).opClass == c).length) = [114, 107, 35] := by
  decide +kernel


end Sys2Proof.Tests
end

section
/-! PROOFS of the statements about the state (10_state.md). First how an instruction's length follows from its byte and
which positions the scan for jump targets lists, then what each effect of an instruction keeps and which operations
ignore the calldata, then the statements. -/

namespace Sys2Proof

/-! ### The length of the instruction a byte selects (R80, R81) -/

/-- The lengths along row `hi` of the map: the PUSH bytes are its rows 6 and 7. -/
theorem opcodeRow_map_length (hi : Nat) (v : Word) :
    (opcodeRow hi v).map Instr.length =
      (List.range 16).map fun lo => if hi = 6 then 2 + lo else if hi = 7 then 18 + lo else 1 := by
  unfold opcodeRow
  split
  case h_16 =>
    have h6 : ¬ hi = 6 := ‹_›
    have h7 : ¬ hi = 7 := ‹_›
    simp only [h6, h7, if_false]
    rfl
  all_goals rfl

theorem instrOf_length (op : Byte) (v : Word) : (instrOf op v).length = 1 + pushLength op := by
  have hlo : op.toNat % 16 < 16 := Nat.mod_lt _ (by decide)
  have hrow := congrArg (·[op.toNat % 16]?) (opcodeRow_map_length (op.toNat / 16) v)
  simp only [List.getElem?_map, List.getElem?_range hlo, Option.map_some,
    List.getElem?_eq_getElem (Nat.lt_of_lt_of_eq hlo (opcodeRow_length _ v).symm), Option.some.injEq] at hrow
  rw [instrOf, hrow, pushLength]
  split_ifs <;> omega

theorem pushLength_le (op : Byte) : pushLength op ≤ 32 := by
  unfold pushLength
  split <;> omega

/-- The instruction read at a position of the code is as long as the byte there says. -/
theorem length_of_decode {code : List Byte} {p : Nat} {i : Instr} (h : decode (code.drop p) = .ok i) :
    ∃ op, code[p]? = some op ∧ i.length = 1 + pushLength op := by
  cases hd : code.drop p with
  | nil =>
    rw [hd] at h
    cases h
  | cons op rest =>
    rw [hd] at h
    injection h with h
    refine ⟨op, ?_, h ▸ instrOf_length op _⟩
    rw [← List.head?_drop, hd, List.head?_cons]

/-! ### Jump targets and opcode positions (R34) -/

/-- The scan at an opcode byte: it lists a JUMPDEST and goes on past the immediates. -/
theorem mem_jumpdestsFrom_cons {b : Byte} {bs : List Byte} {i t : Nat} :
    t ∈ jumpdestsFrom (b :: bs) 0 i ↔ b = 0x5B#8 ∧ t = i ∨ t ∈ jumpdestsFrom bs (pushLength b) (i + 1) := by
  by_cases hb : b = 0x5B#8
  · subst hb
    simp [jumpdestsFrom, pushLength]
  · simp [jumpdestsFrom, hb]

/-- From index `i`, with the next opcode `skip` bytes on, the scan lists exactly the JUMPDEST opcode positions from that
opcode on. -/
theorem mem_jumpdestsFrom {code bs : List Byte} {skip i t : Nat} (hbs : code.drop i = bs)
    (hpos : OpcodePosition code (i + skip)) :
    t ∈ jumpdestsFrom bs skip i ↔ i + skip ≤ t ∧ OpcodePosition code t ∧ code[t]? = some 0x5B := by
  induction bs generalizing skip i with
  | nil =>
    have hlen : code.length ≤ i := List.drop_eq_nil_iff.1 hbs
    have hend : i + skip ≤ t → code[t]? = none := fun h => List.getElem?_eq_none (by omega)
    simp +contextual [jumpdestsFrom, hend]
  | cons b bs ih =>
    have htail : code.drop (i + 1) = bs := by rw [← List.tail_drop, hbs, List.tail_cons]
    have hb : code[i]? = some b := by rw [← List.head?_drop, hbs, List.head?_cons]
    cases skip with
    | succ skip =>
      have hcomm : i + 1 + skip = i + (skip + 1) := by omega
      rw [← hcomm]
      exact ih htail (hcomm ▸ hpos)
    | zero =>
      rw [mem_jumpdestsFrom_cons, ih htail (.next b hpos hb)]
      constructor
      · rintro (⟨rfl, rfl⟩ | ⟨hle, ht⟩)
        · exact ⟨Nat.le_refl _, hpos, hb⟩
        · exact ⟨by omega, ht⟩
      · rintro ⟨hle, ht, hop⟩
        rcases hpos.gap hb ht with h | h
        · obtain rfl : t = i := by omega
          exact .inl ⟨by simpa [hb] using hop, rfl⟩
        · exact .inr ⟨h, ht, hop⟩

theorem mem_jumpdests_iff {code : List Byte} {t : Nat} :
    t ∈ jumpdests code ↔ OpcodePosition code t ∧ code[t]? = some 0x5B :=
  (mem_jumpdestsFrom (skip := 0) (i := 0) rfl .first).trans (and_iff_right (Nat.zero_le t))

/-- Every jump target lies in the code. -/
theorem lt_of_mem_jumpdests {code : List Byte} {t : Nat} (h : t ∈ jumpdests code) : t < code.length := by
  simpa using lt_of_mem_jumpdestsFrom h

namespace Machine

/-! ### What every effect of an instruction keeps -/

/-- The inputs and the parameters are written by no effect (R31, R32, R34, R37). -/
theorem Effect.inputs {i : Instr} {s t : State} (h : Effect i s t) :
    t.code = s.code ∧ t.calldata = s.calldata ∧ t.env = s.env ∧ t.jd = s.jd ∧ t.params = s.params := by
  cases h <;> exact ⟨rfl, rfl, rfl, rfl, rfl⟩

theorem step_inputs {s t : State} (h : step s = .next t) :
    t.code = s.code ∧ t.calldata = s.calldata ∧ t.env = s.env ∧ t.jd = s.jd ∧ t.params = s.params := by
  obtain ⟨-, -, ⟨-, rfl⟩ | ⟨i, -, -, he⟩⟩ := step_next h
  · exact ⟨rfl, rfl, rfl, rfl, rfl⟩
  · exact he.inputs

/-- Where an effect leaves `pc`: where it was, past the instruction, or at the target of a taken jump (R25). -/
theorem Effect.pc_cases {i : Instr} {s t : State} (h : Effect i s t) :
    t.pc = s.pc ∨ t.pc = s.pc + i.length ∨ ∃ d, Jumps i s d ∧ d.toNat ∈ s.jd ∧ t.pc = d.toNat := by
  cases h with
  | raised | refused | stopped | ended => exact .inl rfl
  | stack | memory => exact .inr (.inl rfl)
  | jumped hj ht => exact .inr (.inr ⟨_, hj, ht, rfl⟩)

/-- Where a step leaves `pc`: where it was, past an opcode of the code and its immediates, or at a jump target. -/
theorem step_pc_cases {s t : State} (h : step s = .next t) :
    t.pc = s.pc ∨ (∃ op, s.code[s.pc]? = some op ∧ t.pc = s.pc + 1 + pushLength op) ∨ t.pc ∈ s.jd := by
  obtain ⟨-, -, ⟨-, rfl⟩ | ⟨i, hd, -, he⟩⟩ := step_next h
  · exact .inl rfl
  · obtain ⟨op, hop, hlen⟩ := length_of_decode hd
    rcases he.pc_cases with hpc | hpc | ⟨d, -, ht, hpc⟩
    · exact .inl hpc
    · exact .inr (.inl ⟨op, hop, by omega⟩)
    · exact .inr (.inr (hpc ▸ ht))

theorem Cause.ne_noFault {i : Instr} {s : State} {k : FaultKind} (h : Cause i s k) : k ≠ .noFault := by
  cases h <;> nofun

/-- An access leaves a canonical memory within the ceiling (R50, R54). -/
theorem Accessed.keeps_memory {i : Instr} {s : State} {m : Memory} (h : Accessed i s m) (hs : s.Inv) :
    m.wf = true ∧ m.len ≤ s.params.memCeiling := by
  cases h with
  | read ha he =>
    obtain ⟨-, -, hwf, -, hceil⟩ := Memory.expand_some he
    exact ⟨hwf hs.memory, hceil hs.params.1 hs.ceiling⟩
  | write hi ha hb he =>
    obtain ⟨-, -, hwf, hend, hceil⟩ := Memory.expand_some he
    refine ⟨Memory.storeBytes_wf (hwf hs.memory) _ (hend hb), ?_⟩
    rw [Memory.storeBytes_len]
    exact hceil hs.params.1 hs.ceiling

/-! ### What each update of the state needs to keep the invariant -/

theorem State.Inv.raise {s : State} (h : s.Inv) (hr : s.refused = false) {k : FaultKind} (hk : k ≠ .noFault) :
    (s.raise k).Inv :=
  { h with
    faultKind := iff_of_true hk rfl
    returnData := fun _ _ => rfl
    refusal := by simp [hr] }

theorem State.Inv.refuse {s : State} (h : s.Inv) (hh : s.halt = .running) : s.refuse.Inv :=
  { h with refusal := fun _ => hh }

/-- A halt that is no fault, from a running state. -/
theorem State.Inv.haltWith {s : State} (h : s.Inv) (hr : s.refused = false) (hh : s.halt = .running)
    {r : HaltReason} {data : List Byte} (hi : r ≠ .invalid) (hd : r ≠ .returned → r ≠ .reverted → data = []) :
    (s.haltWith r data).Inv :=
  { h with
    faultKind := by simpa [hh, hi] using h.faultKind
    returnData := hd
    refusal := by simp [hr] }

theorem State.Inv.setStack {s : State} (h : s.Inv) {st : List Word} (hd : st.length ≤ 1024) : (s.setStack st).Inv :=
  { h with depth := hd }

theorem State.Inv.setMem {s : State} (h : s.Inv) {m : Memory} (hm : m.wf = true ∧ m.len ≤ s.params.memCeiling) :
    (s.setMem m).Inv :=
  { h with memory := hm.1, ceiling := hm.2 }

theorem State.Inv.setPc {s : State} (h : s.Inv) {p : Nat} (hp : p ≤ s.code.length + 32) : (s.setPc p).Inv :=
  { h with pcBound := hp }

theorem State.Inv.advance {s : State} (h : s.Inv) {n : Nat} (hp : s.pc + n ≤ s.code.length + 32) :
    (s.advance n).Inv :=
  h.setPc hp

/-- Every effect keeps the invariant, when the instruction does not pass the bound on `pc`. -/
theorem Effect.keeps_inv {i : Instr} {s t : State} (h : Effect i s t) (hs : s.Inv) (hr : s.refused = false)
    (hh : s.halt = .running) (hpc : s.pc + i.length ≤ s.code.length + 32) : t.Inv := by
  have hdepth := hs.depth
  cases h with
  | raised hc => exact hs.raise hr hc.ne_noFault
  | refused => exact hs.refuse hh
  | stopped => exact hs.haltWith hr hh nofun fun _ _ => rfl
  | ended hi ha hm hst =>
    have hread := (hs.setMem ((Accessed.read ha hm).keeps_memory hs)).setStack (hst.trans hdepth)
    obtain ⟨-, rfl⟩ | ⟨-, rfl⟩ := hi
    · exact hread.haltWith hr hh nofun fun h => absurd rfl h
    · exact hread.haltWith hr hh nofun fun _ h => absurd rfl h
  | stack hj hst => exact (hs.setStack (by omega)).advance hpc
  | memory hm hst => exact ((hs.setMem (hm.keeps_memory hs)).setStack (hst.trans hdepth)).advance hpc
  | jumped hj ht hst =>
    have hlt := lt_of_mem_jumpdests (hs.targets ▸ ht)
    exact (hs.setStack (hst.trans hdepth)).setPc (Nat.le_add_right_of_le hlt.le)

theorem step_keeps_inv {s t : State} (hs : s.Inv) (h : step s = .next t) : t.Inv := by
  obtain ⟨hr, hh, ⟨-, rfl⟩ | ⟨i, hd, hlt, he⟩⟩ := step_next h
  · exact hs.haltWith hr hh nofun fun _ _ => rfl
  · obtain ⟨op, -, hlen⟩ := length_of_decode hd
    have hle := pushLength_le op
    exact he.keeps_inv hs hr hh (by omega)

/-- A step keeps `pc` at an opcode position when the jump targets are those of the code. -/
theorem step_keeps_position {s t : State} (hjd : s.jd = jumpdests s.code) (hp : OpcodePosition s.code s.pc)
    (h : step s = .next t) : OpcodePosition s.code t.pc := by
  rcases step_pc_cases h with hpc | ⟨op, hop, hpc⟩ | hpc
  · exact hpc ▸ hp
  · exact hpc ▸ hp.next op hop
  · exact (mem_jumpdests_iff.1 (hjd ▸ hpc)).1

/-! ### Creation and runs -/

/-- The state creation gives for accepted inputs (R42). -/
def createdState (p : Params) (code calldata : List Byte) (env : Env) : State where
  stack := []
  pc := 0
  mem := Memory.empty
  code := code
  calldata := calldata
  env := { env with calldatasize := calldata.length }
  halt := .running
  fault := .noFault
  rd := []
  jd := jumpdests code
  refused := false
  params := p

theorem create_of_accepted {p : Params} {code calldata : List Byte} (env : Env)
    (h : p.valid ∧ code.length ≤ p.codeMax ∧ calldata.length ≤ p.calldataMax) :
    create p code calldata env = some (createdState p code calldata env) :=
  if_pos h

theorem create_of_not_accepted {p : Params} {code calldata : List Byte} (env : Env)
    (h : ¬ (p.valid ∧ code.length ≤ p.codeMax ∧ calldata.length ≤ p.calldataMax)) :
    create p code calldata env = none :=
  if_neg h

/-- Only accepted inputs give a state, and it is R42's. -/
theorem create_eq_some {p : Params} {code calldata : List Byte} {env : Env} {s : State}
    (h : create p code calldata env = some s) :
    (p.valid ∧ code.length ≤ p.codeMax ∧ calldata.length ≤ p.calldataMax) ∧
      s = createdState p code calldata env := by
  by_cases ha : p.valid ∧ code.length ≤ p.codeMax ∧ calldata.length ≤ p.calldataMax
  · rw [create_of_accepted env ha] at h
    exact ⟨ha, (Option.some.inj h).symm⟩
  · rw [create_of_not_accepted env ha] at h
    cases h

theorem create_inv {p : Params} {code calldata : List Byte} {env : Env} {s : State}
    (h : create p code calldata env = some s) : s.Inv := by
  obtain ⟨⟨hp, hcode, hcalldata⟩, rfl⟩ := create_eq_some h
  exact
    { params := hp
      depth := Nat.zero_le _
      memory := Memory.empty_wf
      ceiling := Nat.zero_le _
      targets := rfl
      codeBound := hcode
      calldataBound := hcalldata
      calldataSize := rfl
      pcBound := Nat.zero_le _
      faultKind := by simp [createdState]
      returnData := fun _ _ => rfl
      refusal := nofun }

theorem create_position {p : Params} {code calldata : List Byte} {env : Env} {s : State}
    (h : create p code calldata env = some s) : s.jd = jumpdests s.code ∧ OpcodePosition s.code s.pc := by
  obtain ⟨-, rfl⟩ := create_eq_some h
  exact ⟨rfl, .first⟩

theorem create_reset : create Params.default [] [] Env.zero = some State.reset :=
  create_of_accepted Env.zero (by simp [Params.valid, Params.default])

/-- What every created state has and every step keeps, every state of every run has. -/
theorem Reachable.invariant {P : State → Prop}
    (hcreate : ∀ p code calldata env s, create p code calldata env = some s → P s)
    (hstep : ∀ s t, P s → step s = .next t → P t) {s : State} (h : Reachable s) : P s := by
  induction h with
  | created hc => exact hcreate _ _ _ _ _ hc
  | stepped _ ht ih => exact hstep _ _ ih ht

/-! ### Jumps that are taken -/

theorem Jumps.head? {i : Instr} {s : State} {d : Word} (h : Jumps i s d) : s.stack.head? = some d := by
  cases h with
  | jump hs | jumpi hs => rw [hs, List.head?_cons]

theorem Jumps.unique {i : Instr} {s : State} {d d' : Word} (h : Jumps i s d) (h' : Jumps i s d') : d = d' :=
  Option.some.inj (h.head?.symm.trans h'.head?)

/-- An instruction that accesses memory is no jump. -/
theorem Accessed.ne_jump {i : Instr} {s : State} {m : Memory} (h : Accessed i s m) : i ≠ .jump ∧ i ≠ .jumpi := by
  cases h with
  | read ha => cases ha <;> exact ⟨nofun, nofun⟩
  | write hi => obtain rfl | rfl := hi <;> exact ⟨nofun, nofun⟩

/-- Neither JUMP nor a JUMPI with a condition that is not 0: no jump is taken. -/
theorem not_jumps {i : Instr} {s : State} (h : i ≠ .jump ∧ (i = .jumpi → s.stack[1]? = some 0)) (d : Word) :
    ¬ Jumps i s d := by
  intro hj
  cases hj with
  | jump => exact h.1 rfl
  | jumpi hs hc => exact hc (by simpa [hs] using h.2 rfl)

/-! ### What an effect says of `pc` and of the halt reason -/

theorem effect_of_exec {i : Instr} {s t : State} (h : exec i s = .next t) : Effect i s t := by
  obtain ⟨u, hu, he⟩ := exec_answers i s
  obtain rfl : u = t := by simpa [hu] using h
  exact he

/-- An effect that goes on is a taken jump to its target, or passes an instruction that takes no jump (R25, R257). -/
theorem Effect.pc_of_running {i : Instr} {s t : State} (h : Effect i s t) (hh : t.halt = .running)
    (hr : t.refused = false) :
    (∃ d, Jumps i s d ∧ t.pc = d.toNat ∧ d.toNat ∈ s.jd) ∨
      (i ≠ .jump ∧ (∀ d, ¬ Jumps i s d) ∧ t.pc = s.pc + i.length) := by
  cases h with
  | raised | stopped => cases hh
  | refused => cases hr
  | ended hi => obtain ⟨-, rfl⟩ | ⟨-, rfl⟩ := hi <;> cases hh
  | stack hj => exact .inr ⟨hj.1, not_jumps hj, rfl⟩
  | memory hm =>
    obtain ⟨hj, hji⟩ := hm.ne_jump
    exact .inr ⟨hj, not_jumps ⟨hj, fun h => absurd h hji⟩, rfl⟩
  | jumped hj ht => exact .inl ⟨_, hj, rfl, ht⟩

/-- An effect that ends the block or sets the refusal mark leaves `pc` (R280, D28). -/
theorem Effect.pc_of_ended {i : Instr} {s t : State} (h : Effect i s t) (hh : s.halt = .running)
    (hr : s.refused = false) (ht : t.halt ≠ .running ∨ t.refused = true) : t.pc = s.pc := by
  cases h with
  | raised | refused | stopped | ended => rfl
  | stack | memory | jumped => simp [hh, hr] at ht

/-- The halt reasons that are no fault, and the instructions they come from (R28). -/
theorem Effect.halt_cases {i : Instr} {s t : State} (h : Effect i s t) :
    t.halt = s.halt ∨ t.halt = .invalid ∨
      (t.fault = s.fault ∧ (i = .stop ∧ t.halt = .stopped ∨ i = .ret ∧ t.halt = .returned ∨
        i = .revert ∧ t.halt = .reverted)) := by
  cases h with
  | raised => exact .inr (.inl rfl)
  | refused | stack | memory | jumped => exact .inl rfl
  | stopped hi => exact .inr (.inr ⟨rfl, .inl ⟨hi, rfl⟩⟩)
  | ended hi => exact .inr (.inr ⟨rfl, .inr hi⟩)

/-! ### Operations that do not read the calldata (R32, R262) -/

/-- The state with another calldata and another size recorded for it. -/
def State.withCalldata (cd : List Byte) (n : Nat) (s : State) : State :=
  { s with calldata := cd, env := { s.env with calldatasize := n } }

@[simp] theorem State.withCalldata_stack (cd : List Byte) (n : Nat) (s : State) :
    (s.withCalldata cd n).stack = s.stack := rfl
@[simp] theorem State.withCalldata_mem (cd : List Byte) (n : Nat) (s : State) :
    (s.withCalldata cd n).mem = s.mem := rfl
@[simp] theorem State.withCalldata_jd (cd : List Byte) (n : Nat) (s : State) :
    (s.withCalldata cd n).jd = s.jd := rfl
@[simp] theorem State.withCalldata_params (cd : List Byte) (n : Nat) (s : State) :
    (s.withCalldata cd n).params = s.params := rfl

/-- A result with its next state changed. -/
def mapNext (f : State → State) : Result → Result
  | .next t => .next (f t)
  | .fault r => .fault r
  | .refused r => .refused r

/-- The calldata and its size do not matter to the operation, and it hands them on. -/
def IgnoresCalldata (op : State → Result) : Prop :=
  ∀ (cd : List Byte) (n : Nat) (s : State), op (s.withCalldata cd n) = mapNext (State.withCalldata cd n) (op s)

theorem ignoresCalldata_need1 {k : State → Word → List Word → Result}
    (hk : ∀ a rest, IgnoresCalldata fun s => k s a rest) : IgnoresCalldata fun s => need1 s (k s) := by
  intro cd n s
  simp only [need1, State.withCalldata_stack]
  split
  · exact hk _ _ cd n s
  · rfl

theorem ignoresCalldata_need2 {k : State → Word → Word → List Word → Result}
    (hk : ∀ a b rest, IgnoresCalldata fun s => k s a b rest) : IgnoresCalldata fun s => need2 s (k s) := by
  intro cd n s
  simp only [need2, State.withCalldata_stack]
  split
  · exact hk _ _ _ cd n s
  · rfl

theorem ignoresCalldata_readRange (off size : Nat) {k : List Byte → State → Result}
    (hk : ∀ bs, IgnoresCalldata (k bs)) : IgnoresCalldata fun s => readRange off size s k := by
  intro cd n s
  simp only [readRange, State.withCalldata_mem, State.withCalldata_params]
  split
  · rfl
  · exact hk _ cd n (s.setMem _)

theorem ignoresCalldata_writeRange (off : Nat) (bs : List Byte) {k : State → Result}
    (hk : IgnoresCalldata k) : IgnoresCalldata fun s => writeRange off bs s k := by
  intro cd n s
  simp only [writeRange, State.withCalldata_mem, State.withCalldata_params]
  split
  · rfl
  · exact hk cd n (s.setMem _)

theorem ignoresCalldata_unary (f : Word → Word) : IgnoresCalldata (unary f) :=
  ignoresCalldata_need1 fun _ _ _ _ _ => rfl

theorem ignoresCalldata_binary (f : Word → Word → Word) : IgnoresCalldata (binary f) :=
  ignoresCalldata_need2 fun _ _ _ _ _ _ => rfl

theorem ignoresCalldata_pushWord {v : State → Word} (hv : ∀ cd n s, v (s.withCalldata cd n) = v s) (len : Nat) :
    IgnoresCalldata fun s => pushWord (v s) len s := by
  intro cd n s
  simp only [pushWord, hv, State.withCalldata_stack]
  split <;> rfl

theorem ignoresCalldata_dup (k : Nat) : IgnoresCalldata (dup k) := by
  intro cd n s
  simp only [dup, State.withCalldata_stack]
  split
  · rfl
  · exact ignoresCalldata_pushWord (v := fun _ => _) (fun _ _ _ => rfl) 1 cd n s

theorem ignoresCalldata_swap (k : Nat) : IgnoresCalldata (swap k) :=
  ignoresCalldata_need1 fun _ rest _ _ _ => by
    dsimp only
    cases rest[k - 1]? <;> rfl

theorem ignoresCalldata_jumpTo (d : Word) (rest : List Word) : IgnoresCalldata (jumpTo d rest) := by
  intro cd n s
  by_cases ht : d.toNat ∈ s.jd
  · simp only [jumpTo, State.withCalldata_jd, ht, if_true]
    rfl
  · simp only [jumpTo, State.withCalldata_jd, ht, if_false]
    rfl

theorem ignoresCalldata_unlisted : IgnoresCalldata unlisted := by
  intro cd n s
  simp only [unlisted, State.withCalldata_params]
  split <;> rfl

theorem ignoresCalldata_haltReading (r : HaltReason) : IgnoresCalldata (haltReading r) :=
  ignoresCalldata_need2 fun _ _ _ => ignoresCalldata_readRange _ _ fun _ _ _ _ => rfl

/-- Every instruction but CALLDATALOAD and CALLDATASIZE ignores the calldata. -/
theorem ignoresCalldata_exec {i : Instr} (hload : i ≠ .calldataload) (hsize : i ≠ .calldatasize) :
    IgnoresCalldata (exec i) := by
  cases i with
  | calldataload => exact absurd rfl hload
  | calldatasize => exact absurd rfl hsize
  | add | mul | sub | div | sdiv | mod | smod | exp | signextend | lt | gt | slt | sgt | eq | and | or | xor
  | shl | shr | sar => exact ignoresCalldata_binary _
  | iszero | not | balance | extcodesize => exact ignoresCalldata_unary _
  | sha3 => exact ignoresCalldata_need2 fun _ _ _ => ignoresCalldata_readRange _ _ fun _ _ _ _ => rfl
  | mload => exact ignoresCalldata_need1 fun _ _ => ignoresCalldata_readRange _ _ fun _ _ _ _ => rfl
  | mstore | mstore8 =>
    exact ignoresCalldata_need2 fun _ _ _ => ignoresCalldata_writeRange _ _ fun _ _ _ => rfl
  | ret | revert => exact ignoresCalldata_haltReading _
  | pop => exact ignoresCalldata_need1 fun _ _ _ _ _ => rfl
  | jump => exact ignoresCalldata_need1 fun _ _ => ignoresCalldata_jumpTo _ _
  | jumpi =>
    refine ignoresCalldata_need2 fun t c rest cd n s => ?_
    dsimp only
    split
    · exact ignoresCalldata_jumpTo t rest cd n s
    · rfl
  | address | origin | caller | callvalue | returndatasize | coinbase | timestamp | number | gaslimit | chainid
  | pc | msize | push1 | push2 | push3 | push4 | push5 | push6 | push7 | push8 | push9 | push10 | push11 | push12
  | push13 | push14 | push15 | push16 | push17 | push18 | push19 | push20 | push21 | push22 | push23 | push24
  | push25 | push26 | push27 | push28 | push29 | push30 | push31 | push32 =>
    exact ignoresCalldata_pushWord (fun _ _ _ => rfl) _
  | dup1 | dup2 | dup3 | dup4 | dup5 | dup6 | dup7 | dup8 | dup9 | dup10 | dup11 | dup12 | dup13 | dup14 | dup15
  | dup16 => exact ignoresCalldata_dup _
  | swap1 | swap2 | swap3 | swap4 | swap5 | swap6 | swap7 | swap8 | swap9 | swap10 | swap11 | swap12 | swap13
  | swap14 | swap15 | swap16 => exact ignoresCalldata_swap _
  | addmod | mulmod | byte | calldatacopy | codesize | codecopy | gasprice | extcodecopy
  | returndatacopy | extcodehash | blockhash | prevrandao | selfbalance | basefee | blobhash
  | blobbasefee | sload | sstore | gas | tload | tstore | mcopy | push0 | log0 | log1 | log2
  | log3 | log4 | create | call | callcode | delegatecall | create2 | staticcall | selfdestruct =>
    exact ignoresCalldata_unlisted
  -- STOP, JUMPDEST, and the bytes that raise InvalidOpcode: one update of the state.
  | _ => exact fun _ _ _ => rfl

/-! ### The statements -/

/-- Settles O4: the effect of a step keeps each clause of the invariant. -/
theorem stepKeepsTheInvariant : Obligations.StepKeepsTheInvariant :=
  fun _ _ => step_keeps_inv

/-- Settles O60: `pc` stays, passes an opcode with its immediates, or goes to a jump target, which is an opcode
position. -/
theorem stepKeepsPcOnOpcodePositions : Obligations.StepKeepsPcOnOpcodePositions := by
  refine ⟨fun s t hjd hp h => ?_, fun _ _ _ _ _ => create_position⟩
  obtain ⟨hcode, -, -, hjd', -⟩ := step_inputs h
  rw [hcode, hjd']
  exact ⟨hjd, step_keeps_position hjd hp h⟩

/-- Settles O5: a created state has the invariant and every step keeps it. -/
theorem everyReachableStateSatisfiesTheInvariant : Obligations.EveryReachableStateSatisfiesTheInvariant :=
  fun _ => Reachable.invariant (fun _ _ _ _ _ => create_inv) stepKeepsTheInvariant

/-- Settles O13: neither the implicit stop nor any effect of an instruction writes an input. -/
theorem stepWritesNoInput : Obligations.StepWritesNoInput :=
  fun _ _ => step_inputs

/-- Settles O19, from where each effect leaves `pc`. -/
theorem pcFollowsItsTable : Obligations.PcFollowsItsTable := by
  intro i s t hh hr h
  have he := effect_of_exec h
  refine ⟨he.pc_of_ended hh hr, fun hth htr => ?_⟩
  obtain ⟨d, hj, hpc, ht⟩ | ⟨hi, hj, hpc⟩ := he.pc_of_running hth htr
  · exact ⟨fun d' hj' => hj.unique hj' ▸ ⟨hpc, ht⟩, fun hno => absurd ⟨d, hj⟩ hno⟩
  · exact ⟨fun d hd => absurd hd (hj d), fun _ => ⟨hi, hpc⟩⟩

/-- Settles O20, from the halt reason each effect leaves. -/
theorem haltReasonsComeFromTheirInstructions : Obligations.HaltReasonsComeFromTheirInstructions := by
  intro i s t hh h
  obtain ht | ht | ⟨hf, ⟨hi, ht⟩ | ⟨hi, ht⟩ | ⟨hi, ht⟩⟩ := (effect_of_exec h).halt_cases
  all_goals simp [*]

/-- Settles O49, by the scan's loop: from an opcode position it lists the JUMPDEST positions from there on. -/
theorem jumpTargetsAreTheJumpdestOpcodePositions : Obligations.JumpTargetsAreTheJumpdestOpcodePositions :=
  fun _ _ => mem_jumpdests_iff

/-- Settles O50: O60's step lemma, along a run. -/
theorem runsStayOnOpcodePositions : Obligations.RunsStayOnOpcodePositions := by
  obtain ⟨hstep, hcreate⟩ := stepKeepsPcOnOpcodePositions
  exact fun s hs => (Reachable.invariant (P := fun s => s.jd = jumpdests s.code ∧ OpcodePosition s.code s.pc)
    hcreate (fun s t h => hstep s t h.1 h.2) hs).2

/-- Settles O54: every other instruction commutes with changing the calldata. -/
theorem calldataIsReadOnlyByItsTwoInstructions : Obligations.CalldataIsReadOnlyByItsTwoInstructions := by
  intro i s t cd n hload hsize h
  have hi := ignoresCalldata_exec hload hsize cd n s
  rw [h] at hi
  exact hi

/-- Settles O1: the empty inputs and the default parameters are accepted. -/
theorem resetLeavesTheTabledState : Obligations.ResetLeavesTheTabledState :=
  ⟨create_reset, rfl, rfl, rfl, fun _ => rfl, rfl, rfl, rfl, rfl, rfl⟩

/-- Settles O2, by the two cases of creation. -/
theorem createIsDefinedExactlyOnAcceptedInputs : Obligations.CreateIsDefinedExactlyOnAcceptedInputs := by
  intro p code calldata env
  refine ⟨create_of_not_accepted env, fun hp hcode hcalldata => ?_⟩
  exact ⟨_, create_of_accepted env ⟨hp, hcode, hcalldata⟩,
    rfl, rfl, rfl, fun _ => rfl, rfl, rfl, rfl, rfl, rfl, rfl, rfl, rfl, rfl⟩

/-- Settles O3: the reset state is a created state. -/
theorem resetSatisfiesTheInvariant : Obligations.ResetSatisfiesTheInvariant :=
  create_inv create_reset

/-- Settles O11: past the code there is no byte to decode. -/
theorem stepPastTheCodeStops : Obligations.StepPastTheCodeStops := by
  intro s hh hr hpc
  have hd : decode s.fetch = .error .endOfCode := by rw [State.fetch, List.drop_eq_nil_of_le hpc, decode]
  simp [step, hr, hh, hd, implicitStop, State.haltWith]

/-- Settles O59, by the definition of the output ports. -/
theorem outputsAreDefinedExactlyAtAHalt : Obligations.OutputsAreDefinedExactlyAtAHalt := by
  refine fun s => ⟨fun hh => if_pos hh, fun hh => (if_neg hh).trans ?_⟩
  simp [Memory.bytes]

end Machine

end Sys2Proof
end

section
/-! PROOFS of the statements about memory (20_memory.md). First what the cells and an expansion are determined by, how
the bytes of a range and of a number split off their last, and what an effect leaves in memory, then the statements. -/

namespace Sys2Proof

/-! ### The last byte of a number (R15) -/

/-- The last of the bytes of a number is its value modulo 256. -/
theorem bytesBe_succ_eq_append (v n : Nat) : bytesBe v (n + 1) = bytesBe (v / 256) n ++ [BitVec.ofNat 8 v] := by
  induction n with
  | zero => simp [bytesBe]
  | succ n ih =>
    have hhead : v / 256 / 256 ^ n = v / 256 ^ (n + 1) := by rw [Nat.div_div_eq_div_mul, Nat.pow_succ']
    rw [bytesBe, ih, bytesBe, hhead, List.cons_append]

namespace Machine

/-! ### The canonical form of the cells (log entry 6) -/

theorem cellsWf_cons {len lo k : Nat} {b : Byte} {rest : List Host.Cell} :
    cellsWf len lo ((k, b) :: rest) = true ↔
      lo ≤ k ∧ k < len ∧ b ≠ 0#8 ∧ cellsWf len (k + 1) rest = true := by
  simp [cellsWf, and_assoc]

@[simp] theorem cellAt_cons_self (k : Nat) (b : Byte) (rest : List Host.Cell) : cellAt k ((k, b) :: rest) = b :=
  if_pos rfl

theorem cellAt_cons_of_ne {a k : Nat} (h : k ≠ a) (b : Byte) (rest : List Host.Cell) :
    cellAt a ((k, b) :: rest) = cellAt a rest :=
  if_neg h

/-- The first listed address is the least at which the cells read nonzero. -/
theorem head_le_of_cellAt_ne {len lo k a : Nat} {b : Byte} {rest : List Host.Cell}
    (h : cellsWf len lo ((k, b) :: rest) = true) (ha : cellAt a ((k, b) :: rest) ≠ 0#8) : k ≤ a := by
  obtain ⟨-, hlen, hb, hrest⟩ := cellsWf_cons.1 h
  by_contra hlt
  exact ha (cellAt_below (cellsWf_cons.2 ⟨le_rfl, hlen, hb, hrest⟩) (Nat.lt_of_not_le hlt))

/-- Canonical cells are determined by what they read: each list starts at the least address that reads nonzero. -/
theorem cells_eq_of_cellAt_eq {len len' lo lo' : Nat} {cs cs' : List Host.Cell} (h : cellsWf len lo cs = true)
    (h' : cellsWf len' lo' cs' = true) (hread : ∀ a, cellAt a cs = cellAt a cs') : cs = cs' := by
  induction cs generalizing cs' lo lo' with
  | nil =>
    cases cs' with
    | nil => rfl
    | cons c' rest' =>
      obtain ⟨-, -, hb', -⟩ := cellsWf_cons.1 h'
      exact absurd (by simpa [cellAt] using (hread c'.1).symm) hb'
  | cons c rest ih =>
    obtain ⟨k, b⟩ := c
    obtain ⟨-, -, hb, hrest⟩ := cellsWf_cons.1 h
    cases cs' with
    | nil => exact absurd (by simpa [cellAt] using hread k) hb
    | cons c' rest' =>
      obtain ⟨k', b'⟩ := c'
      obtain ⟨-, -, hb', hrest'⟩ := cellsWf_cons.1 h'
      obtain rfl : k = k' := Nat.le_antisymm
        (head_le_of_cellAt_ne h (a := k') (by rwa [hread, cellAt_cons_self]))
        (head_le_of_cellAt_ne h' (a := k) (by rwa [← hread, cellAt_cons_self]))
      obtain rfl : b = b' := by simpa using hread k
      rw [ih hrest hrest' fun a => ?_]
      rcases Nat.lt_or_ge k a with ha | ha
      · simpa only [cellAt_cons_of_ne (Nat.ne_of_lt ha)] using hread a
      · rw [cellAt_below hrest (by omega), cellAt_below hrest' (by omega)]

/-! ### Memory -/

theorem Memory.eq_of_readByte_eq {m m' : Memory} (h : m.wf = true) (h' : m'.wf = true) (hlen : m.len = m'.len)
    (hread : ∀ a, m.readByte a = m'.readByte a) : m = m' :=
  congrArg₂ Memory.mk hlen (cells_eq_of_cellAt_eq ((Memory.wf_iff m).1 h).2 ((Memory.wf_iff m').1 h').2 hread)

theorem Memory.grow_len_mod {m : Memory} (h : m.len % 32 = 0) (e : Nat) : (m.grow e).len % 32 = 0 := by
  rw [Memory.grow_len]
  split
  · exact ceil32_mod e
  · exact h

/-- No smaller multiple of 32 holds the old memory and the end of the access. -/
theorem Memory.grow_len_le {m : Memory} {e n : Nat} (hn : n % 32 = 0) (hm : m.len ≤ n) (he : e ≤ n) :
    (m.grow e).len ≤ n := by
  rw [Memory.grow_len]
  split
  · exact ceil32_le he hn
  · exact hm

theorem Memory.bytes_succ (m : Memory) (off n : Nat) :
    m.bytes off (n + 1) = m.bytes off n ++ [m.readByte (off + n)] := by
  simp [Memory.bytes, List.range_succ]

/-- A range that reads the bytes of a sequence, one by one, reads that sequence. -/
theorem Memory.bytes_eq_of_readByte {m : Memory} {off n : Nat} {bs : List Byte} (hn : bs.length = n)
    (h : ∀ k, k < n → m.readByte (off + k) = bs.getD k 0#8) : m.bytes off n = bs := by
  refine List.ext_getElem (by simp [hn]) fun k _ hk => ?_
  simp [Memory.bytes, h k (hn ▸ hk), hk]

/-! ### What an effect leaves in memory -/

theorem Accessed.len_le {i : Instr} {s : State} {m : Memory} (h : Accessed i s m) : s.mem.len ≤ m.len := by
  cases h with
  | read ha he => exact (Memory.expand_some he).2.1
  | write hi ha hb he =>
    rw [Memory.storeBytes_len]
    exact (Memory.expand_some he).2.1

/-- After an access to a canonical memory a byte reads as before, or MSTORE or MSTORE8 stores to it (R57, R58). -/
theorem Accessed.readByte_cases {i : Instr} {s : State} {m : Memory} (h : Accessed i s m) (hw : s.mem.wf = true)
    (a : Nat) :
    m.readByte a = s.mem.readByte a ∨
      ∃ off size, (i = .mstore ∨ i = .mstore8) ∧ Accesses i s off size ∧ off ≤ a ∧ a < off + size := by
  cases h with
  | read ha he => exact .inl ((Memory.expand_some he).1 a)
  | @write off bs m hi ha hb he =>
    obtain ⟨hbytes, -, hwf, hend, -⟩ := Memory.expand_some he
    by_cases hin : off ≤ a ∧ a < off + bs.length
    · exact .inr ⟨off, bs.length, hi, ha, hin⟩
    · left
      rw [Memory.storeBytes_readByte (hwf hw) bs (hend hb), if_neg hin, hbytes]

/-- An effect leaves memory alone, or as the instruction's access leaves it. -/
theorem Effect.mem_cases {i : Instr} {s t : State} (h : Effect i s t) : t.mem = s.mem ∨ Accessed i s t.mem := by
  cases h with
  | raised | refused | stopped | stack | jumped => exact .inl rfl
  | ended hi ha hm => exact .inr (.read ha hm)
  | memory hm => exact .inr hm

theorem step_mem_cases {s t : State} (h : step s = .next t) :
    t.mem = s.mem ∨ ∃ i, decode s.fetch = .ok i ∧ Accessed i s t.mem := by
  obtain ⟨-, -, ⟨-, rfl⟩ | ⟨i, hd, -, he⟩⟩ := step_next h
  · exact .inl rfl
  · exact he.mem_cases.imp_right fun hm => ⟨i, hd, hm⟩

theorem step_mem_len_le {s t : State} (h : step s = .next t) : s.mem.len ≤ t.mem.len := by
  obtain hm | ⟨i, -, hm⟩ := step_mem_cases h
  · exact hm ▸ le_rfl
  · exact hm.len_le

/-! ### The statements -/

/-- Settles O46: canonical cells that read alike are the same list, and none lies at or past the length. -/
theorem canonicalMemoriesWithEqualBytesAreEqual : Obligations.CanonicalMemoriesWithEqualBytesAreEqual :=
  ⟨fun _ _ => Memory.eq_of_readByte_eq, fun _ _ hw ha => Memory.readByte_past hw ha⟩

/-- Settles O45, by the two ways an expansion succeeds: a zero-size access that does not expand, and a growth. -/
theorem expansionIsTheLeastMultipleOf32 : Obligations.ExpansionIsTheLeastMultipleOf32 := by
  intro p off size m m' hlen h
  refine ⟨(Memory.expand_some h).1, ?_⟩
  obtain ⟨hs, hz, he⟩ | ⟨-, -, he⟩ | ⟨hx, hle, he⟩ := Memory.expand_cases p off size m
  · obtain rfl : m = m' := Option.some.inj (he.symm.trans h)
    exact ⟨fun _ _ => rfl, fun hx => by simp [hs, hz] at hx⟩
  · exact nomatch he.symm.trans h
  · obtain rfl : m.grow (off + size) = m' := Option.some.inj (he.symm.trans h)
    exact ⟨fun hs hz => absurd ⟨hs, hz⟩ hx, fun _ => ⟨hle, Memory.grow_len_mod hlen _, Memory.le_grow_len m _,
      Memory.end_le_grow_len m _, fun _ hn hm he => Memory.grow_len_le hn hm he⟩⟩

/-- Settles O14: a step leaves memory alone or makes one access, which never shortens it, and only a store changes
bytes. -/
theorem memoryLengthIsAMultipleOf32AndNeverDecreases : Obligations.MemoryLengthIsAMultipleOf32AndNeverDecreases := by
  have hwf : ∀ s, Reachable s → s.mem.wf = true :=
    fun s hs => (everyReachableStateSatisfiesTheInvariant s hs).memory
  refine ⟨fun s hs => ((Memory.wf_iff _).1 (hwf s hs)).1, fun p code calldata env s hc => ?_,
    fun s t => step_mem_len_le, fun s t hs h a hold _ => ?_⟩
  · obtain ⟨-, rfl⟩ := create_eq_some hc
    rfl
  · have hzero : s.mem.readByte a = 0 := Memory.readByte_past (hwf s hs) hold
    obtain hm | ⟨i, hd, hm⟩ := step_mem_cases h
    · exact .inl (hm ▸ hzero)
    · obtain hread | ⟨off, size, hi, hacc, hin⟩ := hm.readByte_cases (hwf s hs) a
      · exact .inl (hread.trans hzero)
      · exact .inr ⟨i, off, size, hd, hi, hacc, hin⟩

/-- Settles O42: the range read is the first 31 bytes of `v` and then the byte of `x`. -/
theorem mixedWidthAccessesSeeBytes : Obligations.MixedWidthAccessesSeeBytes := by
  intro s off v x st hw hst hceil hword
  have hlast : (off + 31).toNat = off.toNat + 31 := by
    rw [BitVec.toNat_add]
    exact Nat.mod_eq_of_lt hword
  obtain ⟨m, ht, hmw, -, hm⟩ := exec_mstore hw hst hceil
  obtain ⟨m', hu, -, -, hm'⟩ :=
    exec_mstore8 (s := { s with stack := (off + 31) :: x :: st, mem := m, pc := s.pc + 1 }) hmw rfl
      (by rw [hlast]; exact hceil)
  have hhigh : m'.bytes off.toNat 31 = bytesBe (v.toNat / 256) 31 := by
    refine Memory.bytes_eq_of_readByte (bytesBe_length _ _) fun k hk => ?_
    rw [hm', if_neg (by omega), hm, if_pos (by omega), Nat.add_sub_cancel_left, bytesBe_succ_eq_append,
      List.getD_append _ _ _ _ (by simpa using hk)]
  have hlow : m'.readByte (off.toNat + 31) = BitVec.ofNat 8 (x.toNat % 256) := by rw [hm', if_pos hlast.symm]
  have hbe : be (m'.bytes off.toNat 32) = v.toNat - v.toNat % 256 + x.toNat % 256 := by
    have hv := v.isLt
    rw [Memory.bytes_succ, be_append_singleton, hhigh, hlow, be_bytesBe, Nat.mod_eq_of_lt (by omega),
      BitVec.toNat_ofNat]
    omega
  exact ⟨_, _, _, ht, hu, exec_mload rfl hceil, by rw [← hbe]⟩

end Machine

end Sys2Proof
end

section
/-! PROOFS of the statements about the encoding (30_encoding.md). First the opcode map read from an instruction and from
a byte, then a padded take at an opcode byte and the decoder's two equations, then the statements. -/

namespace Sys2Proof

/-! ### The map from an instruction: every instruction stands in it at its own byte (R84, R85) -/

theorem opcodeRow_statement (i : Instr) : Laws.OpcodeRow.Statement i := by
  cases i with
  | push1 v => exact Laws.OpcodeRow.push1 v
  | push2 v => exact Laws.OpcodeRow.push2 v
  | push3 v => exact Laws.OpcodeRow.push3 v
  | push4 v => exact Laws.OpcodeRow.push4 v
  | push5 v => exact Laws.OpcodeRow.push5 v
  | push6 v => exact Laws.OpcodeRow.push6 v
  | push7 v => exact Laws.OpcodeRow.push7 v
  | push8 v => exact Laws.OpcodeRow.push8 v
  | push9 v => exact Laws.OpcodeRow.push9 v
  | push10 v => exact Laws.OpcodeRow.push10 v
  | push11 v => exact Laws.OpcodeRow.push11 v
  | push12 v => exact Laws.OpcodeRow.push12 v
  | push13 v => exact Laws.OpcodeRow.push13 v
  | push14 v => exact Laws.OpcodeRow.push14 v
  | push15 v => exact Laws.OpcodeRow.push15 v
  | push16 v => exact Laws.OpcodeRow.push16 v
  | push17 v => exact Laws.OpcodeRow.push17 v
  | push18 v => exact Laws.OpcodeRow.push18 v
  | push19 v => exact Laws.OpcodeRow.push19 v
  | push20 v => exact Laws.OpcodeRow.push20 v
  | push21 v => exact Laws.OpcodeRow.push21 v
  | push22 v => exact Laws.OpcodeRow.push22 v
  | push23 v => exact Laws.OpcodeRow.push23 v
  | push24 v => exact Laws.OpcodeRow.push24 v
  | push25 v => exact Laws.OpcodeRow.push25 v
  | push26 v => exact Laws.OpcodeRow.push26 v
  | push27 v => exact Laws.OpcodeRow.push27 v
  | push28 v => exact Laws.OpcodeRow.push28 v
  | push29 v => exact Laws.OpcodeRow.push29 v
  | push30 v => exact Laws.OpcodeRow.push30 v
  | push31 v => exact Laws.OpcodeRow.push31 v
  | push32 v => exact Laws.OpcodeRow.push32 v
  -- No immediate: the byte and the row entry are numerals.
  | _ => exact ⟨rfl, rfl⟩

theorem instrOf_opcodeByte (i : Instr) : instrOf (opcodeByte i) ((i.immediate.map Prod.snd).getD 0) = i :=
  (opcodeRow_statement i).1

theorem pushLength_opcodeByte (i : Instr) : pushLength (opcodeByte i) = (i.immediate.map Prod.fst).getD 0 :=
  (opcodeRow_statement i).2

/-! ### The map from a byte: what the instruction a byte selects has for opcode byte and immediate (R80 to R82) -/

/-- A function of the instruction that follows a function of the byte along each row of the map does so at every byte. -/
theorem apply_instrOf {α : Type} {f : Instr → α} {g : Byte → α} {v : Word}
    (h : ∀ hi < 16, (opcodeRow hi v).map f = (List.range 16).map fun lo => g (BitVec.ofNat 8 (16 * hi + lo)))
    (op : Byte) : f (instrOf op v) = g op := by
  have hop := op.isLt
  have hlo : op.toNat % 16 < 16 := Nat.mod_lt _ (by decide)
  have hrow : op.toNat % 16 < (opcodeRow (op.toNat / 16) v).length := hlo.trans_eq (opcodeRow_length _ v).symm
  have hat := congrArg (·[op.toNat % 16]?) (h (op.toNat / 16) (by omega))
  simpa [instrOf, hlo, hrow, Nat.div_add_mod] using hat

theorem opcodeByte_instrOf (op : Byte) (v : Word) : opcodeByte (instrOf op v) = op :=
  apply_instrOf (g := id) (fun hi hhi => by interval_cases hi <;> rfl) op

theorem immediate_instrOf (op : Byte) (v : Word) :
    (instrOf op v).immediate = if pushLength op = 0 then none else some (pushLength op, v) :=
  apply_instrOf (g := fun op => if pushLength op = 0 then none else some (pushLength op, v))
    (fun hi hhi => by interval_cases hi <;> rfl) op

/-! ### Encoding and well-formedness, by the immediate (R82, R89) -/

theorem encode_of_immediate_none {i : Instr} (h : i.immediate = none) : encode i = [opcodeByte i] := by
  rw [encode, h]

theorem encode_of_immediate_some {i : Instr} {n : Nat} {v : Word} (h : i.immediate = some (n, v)) :
    encode i = opcodeByte i :: bytesBe v.toNat n := by
  rw [encode, h]

theorem Instr.wellFormed_iff {i : Instr} :
    i.wellFormed = true ↔ ∀ n v, i.immediate = some (n, v) → v.toNat < 256 ^ n := by
  cases h : i.immediate with
  | none => simp [Instr.wellFormed, h]
  | some imm => simp [Instr.wellFormed, h, Prod.eq_iff_fst_eq_snd_eq]

theorem encode_instrOf (op : Byte) (v : Word) : encode (instrOf op v) = op :: bytesBe v.toNat (pushLength op) := by
  have himm := immediate_instrOf op v
  split_ifs at himm with h
  · rw [encode_of_immediate_none himm, opcodeByte_instrOf, h, bytesBe]
  · rw [encode_of_immediate_some himm, opcodeByte_instrOf]

theorem wellFormed_instrOf {op : Byte} {v : Word} (h : v.toNat < 256 ^ pushLength op) :
    (instrOf op v).wellFormed = true := by
  refine Instr.wellFormed_iff.2 fun n w himm => ?_
  rw [immediate_instrOf] at himm
  split_ifs at himm
  obtain ⟨rfl, rfl⟩ := himm
  exact h

/-! ### The immediate a byte sequence gives (R82, R83) -/

/-- Padding beyond the bytes taken is not read. -/
theorem takePadded_cons (n : Nat) (b : Byte) (bs : List Byte) :
    takePadded (n + 1) (b :: bs) = b :: takePadded n bs := by
  rw [takePadded, takePadded, List.cons_append, List.take_succ_cons, List.replicate_succ', ← List.append_assoc,
    List.take_append_of_le_length (by simp)]

/-- The immediate is no wider than a Word. -/
theorem toNat_ofNat_be_takePadded (op : Byte) (bs : List Byte) :
    (BitVec.ofNat 256 (be (takePadded (pushLength op) bs))).toNat = be (takePadded (pushLength op) bs) := by
  have hbe := be_lt (takePadded (pushLength op) bs)
  have hpow : 256 ^ pushLength op ≤ 2 ^ 256 := Nat.pow_le_pow_right (n := 256) (by decide) (pushLength_le op)
  rw [takePadded_length] at hbe
  exact Nat.mod_eq_of_lt (hbe.trans_le hpow)

theorem decode_eq_ok {bs : List Byte} {i : Instr} (h : decode bs = .ok i) :
    ∃ op rest, bs = op :: rest ∧ i = instrOf op (BitVec.ofNat 256 (be (takePadded (pushLength op) rest))) := by
  cases bs with
  | nil => cases h
  | cons op rest =>
    cases h
    exact ⟨op, rest, rfl, rfl⟩

theorem decode_encode {i : Instr} (h : i.wellFormed = true) (rest : List Byte) :
    decode (encode i ++ rest) = .ok i := by
  have hrow := instrOf_opcodeByte i
  have hlen := pushLength_opcodeByte i
  cases himm : i.immediate with
  | none =>
    simp only [himm, Option.map_none, Option.getD_none] at hrow hlen
    rw [encode_of_immediate_none himm, List.singleton_append, decode, hlen]
    exact congrArg _ hrow
  | some imm =>
    obtain ⟨n, v⟩ := imm
    simp only [himm, Option.map_some, Option.getD_some] at hrow hlen
    have htake : takePadded n (bytesBe v.toNat n ++ rest) = bytesBe v.toNat n := by
      simpa using takePadded_append (bytesBe v.toNat n) rest
    rw [encode_of_immediate_some himm, List.cons_append, decode, hlen, htake, be_bytesBe,
      Nat.mod_eq_of_lt (Instr.wellFormed_iff.1 h n v himm), BitVec.ofNat_toNat, BitVec.setWidth_eq, hrow]

/-! ### The statements -/

/-- Settles O6: the map gives the opcode byte its instruction back, and the immediate bytes give the immediate back. -/
theorem decodeOfEncodeIsTheInstruction : Obligations.DecodeOfEncodeIsTheInstruction :=
  fun _ rest h => decode_encode h rest

/-- Settles O7: the instruction read carries the padded bytes' number, whose bytes they are. -/
theorem encodeOfDecodeIsThePaddedBytes : Obligations.EncodeOfDecodeIsThePaddedBytes := by
  intro bs i h
  obtain ⟨op, rest, rfl, rfl⟩ := decode_eq_ok h
  have hv := toNat_ofNat_be_takePadded op rest
  have hlen := takePadded_length (pushLength op) rest
  constructor
  · refine wellFormed_instrOf ?_
    rw [hv]
    exact (be_lt _).trans_eq (congrArg _ hlen)
  · have hbytes : bytesBe (be (takePadded (pushLength op) rest)) (pushLength op) = takePadded (pushLength op) rest := by
      simpa using bytesBe_be (takePadded (pushLength op) rest)
    rw [encode_instrOf, hv, hbytes, instrOf_length, Nat.add_comm, takePadded_cons]

/-- Settles O58: class X is one operation, which sets the mark, and the mark leaves no step. -/
theorem classXBytesSetTheRefusalMark : Obligations.ClassXBytesSetTheRefusalMark := by
  intro i s hi hp
  refine ⟨?_, rfl, (Machine.outputsAreDefinedExactlyAtAHalt _).1⟩
  rw [Machine.exec_of_unlisted hi, Machine.unlisted, hp]
  rfl

/-- Settles O8, by the decoder's two equations. -/
theorem decodeFailsOnlyAtTheEndOfCode : Obligations.DecodeFailsOnlyAtTheEndOfCode := by
  intro bs
  cases bs with
  | nil => simp [decode]
  | cons op rest => simp [decode]

/-- Settles O9, by running the decoder on the bytes. -/
theorem writtenOutBytesDecode : Obligations.WrittenOutBytesDecode := by
  unfold Obligations.WrittenOutBytesDecode
  decide

end Sys2Proof
end

section
/-! PROOFS of the statements about arithmetic (40_arithmetic.md). First what a two-operand instruction does to the
state, then what the signed divisions and SIGNEXTEND compute, then the statements. -/

namespace Sys2Proof.Machine

/-! ### Two-operand instructions -/

/-- An instruction that computes one Word from its two operands leaves that Word in their place. -/
theorem runsTo_of_binary {i : Instr} {s : State} {f : Word → Word → Word} {a b v : Word} {st : List Word}
    (hi : exec i s = binary f s) (hs : s.stack = a :: b :: st) (hv : f a b = v) : RunsTo i s (v :: st) :=
  hv ▸ hi.trans (binary_of_cons hs f)

theorem faultsWith_of_binary {i : Instr} {s : State} {f : Word → Word → Word} (hi : exec i s = binary f s)
    (hs : s.stack.length < 2) : FaultsWith i s .stackUnderflow :=
  hi.trans (need2_of_short hs _)

/-! ### Division by zero (R299) -/

@[simp] theorem divWord_zero (a : Word) : divWord a 0 = 0 := if_pos rfl
@[simp] theorem sdivWord_zero (a : Word) : sdivWord a 0 = 0 := if_pos rfl
@[simp] theorem modWord_zero (a : Word) : modWord a 0 = 0 := if_pos rfl
@[simp] theorem smodWord_zero (a : Word) : smodWord a 0 = 0 := if_pos rfl

/-! ### The signed divisions (R115, R117) -/

/-- R117's remainder, of the magnitudes and with the dividend's sign, is that of the division rounded toward zero. -/
theorem sign_mul_natAbs_mod_natAbs (x y : Int) :
    (if x < 0 then -1 else 1) * ((x.natAbs % y.natAbs : Nat) : Int) = x.tmod y := by
  rw [← Int.natAbs_tmod]
  split
  case isTrue hx =>
    have hnonneg : 0 ≤ (-x).tmod y := Int.tmod_nonneg y (by omega)
    rw [Int.neg_tmod] at hnonneg
    omega
  case isFalse hx =>
    have hnonneg : 0 ≤ x.tmod y := Int.tmod_nonneg y (by omega)
    omega

theorem sdivWord_of_ne_zero {b : Word} (a : Word) (hb : b ≠ 0) :
    sdivWord a b = BitVec.ofInt 256 (a.toInt.tdiv b.toInt) := by
  rw [sdivWord, if_neg hb, signed_eq_toInt, signed_eq_toInt, word]

theorem smodWord_of_ne_zero {b : Word} (a : Word) (hb : b ≠ 0) :
    smodWord a b = BitVec.ofInt 256 (a.toInt.tmod b.toInt) := by
  rw [smodWord, if_neg hb, signed_eq_toInt, signed_eq_toInt, sign_mul_natAbs_mod_natAbs, word]

/-- A remainder is no larger than its operands, so narrowing it to a Word loses nothing. -/
theorem toInt_ofInt_tmod (a b : Word) : (BitVec.ofInt 256 (a.toInt.tmod b.toInt)).toInt = a.toInt.tmod b.toInt := by
  rw [← BitVec.toInt_srem, BitVec.ofInt_toInt]

/-! ### SIGNEXTEND's masks (R119, D21) -/

/-- The mask SIGNEXTEND clears the bits from `n` on with. -/
theorem getLsbD_lowMask (n : Nat) {k : Nat} (hk : k < 256) :
    (BitVec.ofNat 256 (2 ^ n - 1)).getLsbD k = decide (k < n) := by
  rw [BitVec.getLsbD_ofNat, Nat.testBit_two_pow_sub_one, decide_eq_true hk, Bool.true_and]

/-- The mask SIGNEXTEND sets the bits from `n` on with: every bit that the other mask leaves out. -/
theorem getLsbD_highMask {n k : Nat} (hn : n ≤ 256) (hk : k < 256) :
    (BitVec.ofNat 256 (2 ^ 256 - 2 ^ n)).getLsbD k = decide (n ≤ k) := by
  have hlt : 2 ^ n - 1 < 2 ^ 256 := Nat.sub_one_lt_of_le (Nat.two_pow_pos n) (Nat.pow_le_pow_right (by decide) hn)
  have hbit := Nat.testBit_two_pow_sub_succ hlt k
  rw [Nat.sub_add_cancel (Nat.two_pow_pos n), Nat.testBit_two_pow_sub_one] at hbit
  rw [BitVec.getLsbD_ofNat, hbit]
  simp [hk, ← decide_not]

theorem signextendWord_of_le {a : Word} (b : Word) (ha : 31 ≤ a.toNat) : signextendWord a b = b := if_pos ha

/-- Below byte 31, every bit above the sign bit is set or cleared as the sign bit is. -/
theorem getLsbD_signextendWord_of_lt {a : Word} (b : Word) (ha : a.toNat < 31) {k : Nat} (hk : k < 256) :
    (signextendWord a b).getLsbD k =
      if k ≤ 8 * a.toNat + 7 then b.getLsbD k else b.getLsbD (8 * a.toNat + 7) := by
  have hhigh := getLsbD_highMask (n := 8 * a.toNat + 7 + 1) (by omega) hk
  have hlow := getLsbD_lowMask (8 * a.toNat + 7 + 1) hk
  rw [signextendWord, if_neg (Nat.not_le.2 ha)]
  dsimp only
  cases hsign : b.getLsbD (8 * a.toNat + 7) with
  | true =>
    rw [if_pos rfl, BitVec.getLsbD_or, hhigh]
    by_cases hle : k ≤ 8 * a.toNat + 7
    · rw [if_pos hle, decide_eq_false (by omega), Bool.or_false]
    · rw [if_neg hle, decide_eq_true (by omega), Bool.or_true]
  | false =>
    rw [if_neg Bool.false_ne_true, BitVec.getLsbD_and, hlow]
    by_cases hle : k ≤ 8 * a.toNat + 7
    · rw [if_pos hle, decide_eq_true (by omega), Bool.and_true]
    · rw [if_neg hle, decide_eq_false (by omega), Bool.and_false]

/-! ### The statements -/

/-- Settles O23: R117's signs and magnitudes are the truncated remainder. -/
theorem sdivAndSmodAreTruncatedDivision : Obligations.SdivAndSmodAreTruncatedDivision :=
  fun _ a _ _ hs hb =>
    ⟨runsTo_of_binary (f := sdivWord) rfl hs (sdivWord_of_ne_zero a hb),
      runsTo_of_binary (f := smodWord) rfl hs (smodWord_of_ne_zero a hb)⟩

/-- Settles O24: the recomposition of truncated division, narrowed to Words, which leaves the remainder as it is. -/
theorem sdivAndSmodRecomposeTheDividend : Obligations.SdivAndSmodRecomposeTheDividend := by
  intro s a b st hs hb
  obtain ⟨hq, hr⟩ := sdivAndSmodAreTruncatedDivision s a b st hs hb
  have hb' : b.toInt ≠ 0 := BitVec.toInt_zero ▸ BitVec.toInt_ne.2 hb
  refine ⟨_, _, hq, hr, ?_, ?_, ?_⟩
  · calc a = BitVec.ofInt 256 (a.toInt.tdiv b.toInt * b.toInt + a.toInt.tmod b.toInt) := by
          rw [Int.tdiv_mul_add_tmod, BitVec.ofInt_toInt]
      _ = BitVec.ofInt 256 (a.toInt.tdiv b.toInt) * b + BitVec.ofInt 256 (a.toInt.tmod b.toInt) := by
          rw [BitVec.ofInt_add, BitVec.ofInt_mul, BitVec.ofInt_toInt]
  · rw [toInt_ofInt_tmod, Int.natAbs_tmod]
    exact Nat.mod_lt _ (Int.natAbs_pos.2 hb')
  · have hsign := Int.sign_tmod a.toInt b.toInt
    rw [toInt_ofInt_tmod]
    split at hsign
    · exact .inl (congrArg (BitVec.ofInt 256) (Int.sign_eq_zero_iff_zero.1 hsign))
    · exact .inr (by rw [← Int.sign_eq_neg_one_iff_neg, hsign, Int.sign_eq_neg_one_iff_neg])

/-- Settles O25: squaring computes the exact power. -/
theorem expIsTheExactPowerModulo : Obligations.ExpIsTheExactPowerModulo :=
  fun _ a b _ hs => runsTo_of_binary (f := expWord) rfl hs (expWord_eq a b)

/-- Settles O26, bit by bit of the two masks. -/
theorem signextendCopiesTheSignBit : Obligations.SignextendCopiesTheSignBit := by
  intro s a b st hs
  refine ⟨signextendWord a b, runsTo_of_binary (f := signextendWord) rfl hs rfl, fun k hk => ?_⟩
  rcases Nat.lt_or_ge a.toNat 31 with ha | ha
  · rw [getLsbD_signextendWord_of_lt b ha hk]
    simp only [Nat.not_le.2 ha, false_or]
  · rw [signextendWord_of_le b ha, if_pos (.inl ha)]

/-- Settles O21: narrowing to a Word is reduction modulo 2^256. -/
theorem addWraps : Obligations.AddWraps := by
  refine ⟨decode_encode (i := .add) rfl, fun s a b st hs => runsTo_of_binary (f := addWord) rfl hs ?_,
    fun s => faultsWith_of_binary (f := addWord) rfl⟩
  exact BitVec.eq_of_toNat_eq (by simp [addWord])

/-- Settles O22: each result is its rule's, and a zero divisor is each division's first case. -/
theorem mulSubDivAndMod : Obligations.MulSubDivAndMod := by
  intro s a b st hs
  refine ⟨runsTo_of_binary (f := mulWord) rfl hs rfl, runsTo_of_binary (f := subWord) rfl hs rfl, fun hb => ?_, ?_⟩
  · exact ⟨runsTo_of_binary (f := divWord) rfl hs (if_neg hb), runsTo_of_binary (f := modWord) rfl hs (if_neg hb)⟩
  · rintro rfl
    exact ⟨runsTo_of_binary (f := divWord) rfl hs (divWord_zero a),
      runsTo_of_binary (f := sdivWord) rfl hs (sdivWord_zero a),
      runsTo_of_binary (f := modWord) rfl hs (modWord_zero a),
      runsTo_of_binary (f := smodWord) rfl hs (smodWord_zero a)⟩

end Sys2Proof.Machine
end

section
/-! PROOFS of the statements about comparison, bitwise operators and shifts (41_compare_bitwise.md). First what a
one-operand instruction does to the state, then what the comparisons and the shifts compute, then the statements. -/

namespace Sys2Proof.Machine

/-! ### One-operand instructions -/

/-- An instruction that computes one Word from its only operand leaves that Word in its place. -/
theorem runsTo_of_unary {i : Instr} {s : State} {f : Word → Word} {a v : Word} {st : List Word}
    (hi : exec i s = unary f s) (hs : s.stack = a :: st) (hv : f a = v) : RunsTo i s (v :: st) :=
  hv ▸ hi.trans (unary_of_cons hs f)

/-! ### Comparisons (R141 to R146) -/

theorem boolWord_eq_of_iff {p q : Prop} [Decidable p] [Decidable q] (h : p ↔ q) :
    boolWord p = if q then 1 else 0 := by
  simp only [boolWord, h]

theorem sltWord_eq (a b : Word) : sltWord a b = if a.toInt < b.toInt then 1 else 0 :=
  boolWord_eq_of_iff (by rw [signed_eq_toInt, signed_eq_toInt])

theorem sgtWord_eq (a b : Word) : sgtWord a b = if a.toInt > b.toInt then 1 else 0 :=
  boolWord_eq_of_iff (by rw [signed_eq_toInt, signed_eq_toInt, gt_iff_lt])

theorem eqWord_eq (a b : Word) : eqWord a b = if a.toNat = b.toNat then 1 else 0 :=
  boolWord_eq_of_iff BitVec.toNat_inj.symm

theorem iszeroWord_eq (a : Word) : iszeroWord a = if a.toNat = 0 then 1 else 0 :=
  boolWord_eq_of_iff (BitVec.toNat_inj (y := 0)).symm

/-! ### The arithmetic shift right (R153, R154) -/

theorem sarWord_of_le {a : Word} (b : Word) (ha : 256 ≤ a.toNat) :
    sarWord a b = if b.getLsbD 255 then BitVec.allOnes 256 else 0 :=
  if_pos ha

/-- Below 256 the model's `fdiv` is Lean's integer division: both round down for a positive divisor. -/
theorem sarWord_of_lt {a : Word} (b : Word) (ha : a.toNat < 256) :
    sarWord a b = BitVec.ofInt 256 (b.toInt / ((2 ^ a.toNat : Nat) : Int)) := by
  rw [sarWord, if_neg (Nat.not_le.2 ha), signed_eq_toInt, Int.fdiv_eq_ediv_of_nonneg _ (Int.natCast_nonneg _), word]

/-- The quotient rounded down is the shift that copies the sign bit. -/
theorem sarWord_eq_sshiftRight {a : Word} (b : Word) (ha : a.toNat < 256) :
    sarWord a b = b.sshiftRight a.toNat := by
  rw [sarWord_of_lt b ha, ← Int.shiftRight_eq_div_pow, BitVec.sshiftRight_eq]

theorem getLsbD_sarWord (a b : Word) {k : Nat} (hk : k < 256) :
    (sarWord a b).getLsbD k = if k + a.toNat < 256 then b.getLsbD (k + a.toNat) else b.getLsbD 255 := by
  rcases Nat.lt_or_ge a.toNat 256 with ha | ha
  · rw [sarWord_eq_sshiftRight b ha, BitVec.getLsbD_sshiftRight, decide_eq_false (Nat.not_le.2 hk), Bool.not_false,
      Bool.true_and, Nat.add_comm, BitVec.msb_eq_getLsbD_last]
  · have hpast : ¬ k + a.toNat < 256 := by omega
    rw [sarWord_of_le b ha, if_neg hpast]
    cases b.getLsbD 255 with
    | true => rw [if_pos rfl, BitVec.getLsbD_allOnes, decide_eq_true hk]
    | false => rw [if_neg Bool.false_ne_true, BitVec.ofNat_eq_ofNat, BitVec.getLsbD_zero]

/-! ### The statements -/

/-- Settles O27: `signed` is the two's-complement value, and Words are equal when their numbers are. -/
theorem comparisonsPushOneOrZero : Obligations.ComparisonsPushOneOrZero :=
  ⟨fun _ a b _ hs =>
    ⟨runsTo_of_binary (f := ltWord) rfl hs rfl,
      runsTo_of_binary (f := gtWord) rfl hs rfl,
      runsTo_of_binary (f := sltWord) rfl hs (sltWord_eq a b),
      runsTo_of_binary (f := sgtWord) rfl hs (sgtWord_eq a b),
      runsTo_of_binary (f := eqWord) rfl hs (eqWord_eq a b)⟩,
    fun _ a _ hs => runsTo_of_unary (f := iszeroWord) rfl hs (iszeroWord_eq a)⟩

/-- Settles O28: the operators of the model are those of bit vectors. -/
theorem bitwiseOperatorsActOnEveryBit : Obligations.BitwiseOperatorsActOnEveryBit := by
  refine ⟨fun s a b st hs => ⟨a &&& b, a ||| b, a ^^^ b, ?_, ?_, ?_, fun k _ => ⟨?_, ?_, ?_⟩⟩,
    fun s a st hs => ⟨~~~a, ?_, BitVec.toNat_not, fun k hk => ?_⟩⟩
  · exact runsTo_of_binary (f := (· &&& ·)) rfl hs rfl
  · exact runsTo_of_binary (f := (· ||| ·)) rfl hs rfl
  · exact runsTo_of_binary (f := (· ^^^ ·)) rfl hs rfl
  · exact BitVec.getLsbD_and
  · exact BitVec.getLsbD_or
  · exact BitVec.getLsbD_xor
  · exact runsTo_of_unary (f := (~~~·)) rfl hs rfl
  · rw [BitVec.getLsbD_not, decide_eq_true hk, Bool.true_and]

/-- Settles O30: the bits of an amount of 256 or more are all the sign bit, and below it SAR divides. -/
theorem sarRoundsDown : Obligations.SarRoundsDown := by
  refine ⟨decode_encode (i := .sar) rfl, fun s a b st hs => ⟨fun ha hsign => ?_, fun ha hsign => ?_, fun ha => ?_⟩,
    fun s => faultsWith_of_binary (f := sarWord) rfl⟩ <;>
    refine runsTo_of_binary (f := sarWord) rfl hs ?_
  · rw [sarWord_of_le b ha, if_pos hsign]
    rfl
  · rw [sarWord_of_le b ha, hsign, if_neg Bool.false_ne_true]
  · rw [sarWord_of_lt b ha, Nat.cast_pow, Nat.cast_ofNat]

/-- Settles O31, below 256 by the shift that copies the sign bit and from 256 on by the two constants. -/
theorem sarCopiesTheSignBit : Obligations.SarCopiesTheSignBit :=
  fun _ a b _ hs => ⟨sarWord a b, runsTo_of_binary (f := sarWord) rfl hs rfl, fun _ hk => getLsbD_sarWord a b hk⟩

/-- Settles O29: each case is the branch of the definition that the amount selects. -/
theorem shlAndShrAreLogicalShifts : Obligations.ShlAndShrAreLogicalShifts := by
  refine fun s a b st hs => ⟨fun ha => ?_, fun ha => ?_⟩
  · exact ⟨runsTo_of_binary (f := shlWord) rfl hs (if_pos ha), runsTo_of_binary (f := shrWord) rfl hs (if_pos ha)⟩
  · have ha' := Nat.not_le.2 ha
    exact ⟨runsTo_of_binary (f := shlWord) rfl hs (if_neg ha'), runsTo_of_binary (f := shrWord) rfl hs (if_neg ha')⟩

end Sys2Proof.Machine
end

section
/-! PROOFS of the statements about the stack (42_stack.md). First the bytes and the meanings of the DUP and SWAP
rows by their number, then PUSHn and the immediate a step reads, then the statements. -/

namespace Sys2Proof.Machine

/-! ### The DUP and SWAP rows (R205, R222) -/

theorem decode_of_immediate_none {i : Instr} (h : i.immediate = none) (rest : List Byte) :
    decode (opcodeByte i :: rest) = .ok i := by
  have hwf : i.wellFormed = true := Instr.wellFormed_iff.2 fun n v himm => by simp [h] at himm
  simpa [encode_of_immediate_none h] using decode_encode hwf rest

/-- A function of the instruction that follows a function of the index along a list does so at every entry. -/
theorem apply_of_getElem? {α : Type} {f : Instr → α} {g : Nat → α} {l : List Instr} {n : Nat}
    (h : l.map f = (List.range n).map g) {k : Nat} {i : Instr} (hi : l[k]? = some i) : f i = g k := by
  have hk := congrArg (·[k]?) h
  simp only [List.getElem?_map, hi, Option.map_some] at hk
  obtain ⟨j, hj, hgj⟩ := Option.map_eq_some_iff.1 hk.symm
  obtain ⟨hlt, rfl⟩ := List.getElem?_eq_some_iff.1 hj
  rw [← hgj, List.getElem_range]

/-- A list of instructions without immediates whose opcode bytes count up from `base + 1`. -/
theorem decode_of_getElem? {l : List Instr} {base n : Nat}
    (hbyte : l.map opcodeByte = (List.range n).map fun k => BitVec.ofNat 8 (base + (k + 1)))
    (himm : ∀ i ∈ l, i.immediate = none) {k : Nat} {i : Instr} (hi : l[k]? = some i) (rest : List Byte) :
    decode (BitVec.ofNat 8 (base + (k + 1)) :: rest) = .ok i :=
  apply_of_getElem? hbyte hi ▸ decode_of_immediate_none (himm i (List.mem_of_getElem? hi)) rest

theorem decode_dup {k : Nat} {i : Instr} (hi : dupInstrs[k]? = some i) (rest : List Byte) :
    decode (BitVec.ofNat 8 (0x7F + (k + 1)) :: rest) = .ok i :=
  decode_of_getElem? (n := 16) rfl (by decide) hi rest

theorem decode_swap {k : Nat} {i : Instr} (hi : swapInstrs[k]? = some i) (rest : List Byte) :
    decode (BitVec.ofNat 8 (0x8F + (k + 1)) :: rest) = .ok i :=
  decode_of_getElem? (n := 16) rfl (by decide) hi rest

theorem exec_dup {k : Nat} {i : Instr} (hi : dupInstrs[k]? = some i) (s : State) : exec i s = dup (k + 1) s :=
  congrFun (apply_of_getElem? (g := fun k => dup (k + 1)) (n := 16) rfl hi) s

theorem exec_swap {k : Nat} {i : Instr} (hi : swapInstrs[k]? = some i) (s : State) : exec i s = swap (k + 1) s :=
  congrFun (apply_of_getElem? (g := fun k => swap (k + 1)) (n := 16) rfl hi) s

/-- A stack deep enough for SWAP(k+1) is a top `t` and what is below it, whose entry `k` is the other operand. -/
theorem exists_swap_operands {st : List Word} {k : Nat} (h : k + 2 ≤ st.length) :
    ∃ t u rest, st = t :: rest ∧ rest[k]? = some u := by
  cases st with
  | nil => simp at h
  | cons t rest =>
    have hk : k < rest.length := by simpa using h
    exact ⟨t, rest[k], rest, rfl, List.getElem?_eq_getElem hk⟩

/-! ### PUSHn (R172) -/

/-- Only the PUSH rows have an immediate. -/
theorem exec_of_immediate_some {i : Instr} {n : Nat} {v : Word} (h : i.immediate = some (n, v)) (s : State) :
    exec i s = pushWord v (1 + n) s := by
  cases i <;> cases h <;> rfl

theorem pushLength_ofNat {n : Nat} (h1 : 1 ≤ n) (h32 : n ≤ 32) : pushLength (BitVec.ofNat 8 (0x5F + n)) = n := by
  have hop : (BitVec.ofNat 8 (0x5F + n)).toNat = 0x5F + n := Nat.mod_eq_of_lt (by omega)
  rw [pushLength, hop, if_pos (by omega), Nat.add_sub_cancel_left]

/-- The bytes from `pc` on, padded, read by index in the code (R83). -/
theorem takePadded_drop (n p : Nat) (code : List Byte) :
    takePadded n (code.drop p) = (List.range n).map fun k => code.getD (p + k) 0 := by
  refine List.ext_getElem? fun k => ?_
  rcases Nat.lt_or_ge k n with hk | hk
  · rw [takePadded_getElem? n k _ hk]
    simp [hk]
  · rw [List.getElem?_eq_none (by simpa using hk), List.getElem?_eq_none (by simpa using hk)]

theorem step_of_decode {s : State} {i : Instr} (hh : s.halt = .running) (hr : s.refused = false)
    (hd : decode s.fetch = .ok i) : step s = exec i s := by
  simp [step, hh, hr, hd]

/-- A step at a PUSHn byte is the push of the `n` bytes after it. -/
theorem step_of_push_byte {s : State} {n : Nat} (hh : s.halt = .running) (hr : s.refused = false) (h1 : 1 ≤ n)
    (h32 : n ≤ 32) (hop : s.code[s.pc]? = some (BitVec.ofNat 8 (0x5F + n))) :
    ∃ v : Word, step s = pushWord v (1 + n) s ∧
      v.toNat = be ((List.range n).map fun k => s.code.getD (s.pc + 1 + k) 0) := by
  have hlen := pushLength_ofNat h1 h32
  generalize BitVec.ofNat 8 (0x5F + n) = op at hop hlen
  obtain ⟨hpc, rfl⟩ := List.getElem?_eq_some_iff.1 hop
  subst hlen
  have hd := congrArg decode (List.drop_eq_getElem_cons hpc)
  have himm := immediate_instrOf s.code[s.pc]
    (BitVec.ofNat 256 (be (takePadded (pushLength s.code[s.pc]) (s.code.drop (s.pc + 1)))))
  rw [if_neg (by omega)] at himm
  refine ⟨_, (step_of_decode hh hr hd).trans (exec_of_immediate_some himm s), ?_⟩
  rw [toNat_ofNat_be_takePadded, takePadded_drop]

/-! ### The statements -/

/-- Settles O34: the byte is PUSHn, and the padded bytes after it are the code read by index. -/
theorem stepPushReadsItsImmediateFromTheCode : Obligations.StepPushReadsItsImmediateFromTheCode := by
  intro s n hh hr h1 h32 hop
  obtain ⟨v, hstep, hv⟩ := step_of_push_byte hh hr h1 h32 hop
  refine ⟨fun hfull => hstep.trans (pushWord_of_full hfull v _), fun hroom => ⟨v, ?_, hv⟩⟩
  rw [hstep, pushWord_of_room hroom, Nat.add_assoc]
  rfl

/-- Settles O35: DUP looks for its entry first, so a full stack is an overflow only where the entry is there. -/
theorem dupCopies : Obligations.DupCopies := by
  refine fun k i hi => ⟨decode_dup hi, fun s => ?_⟩
  have hk : k < 16 := (List.getElem?_eq_some_iff.1 hi).1
  have hexec := exec_dup hi s
  refine ⟨fun hshort => hexec.trans (dup_of_short (Nat.succ_pos k) hshort), fun hfull => ?_, fun v hv hroom => ?_⟩
  · have hv : s.stack[k]? = some s.stack[k] := List.getElem?_eq_getElem (by omega)
    exact hexec.trans ((dup_of_some hv).trans (pushWord_of_full (by omega) _ 1))
  · exact hexec.trans ((dup_of_some hv).trans (pushWord_of_room hroom v 1))

/-- Settles O36: the stack is a top and what is below it, in which entry `k` is set. -/
theorem swapExchanges : Obligations.SwapExchanges := by
  refine fun k i hi => ⟨decode_swap hi, fun s => ⟨fun hshort => ?_, fun hdeep => ?_⟩⟩
  · exact (exec_swap hi s).trans (swap_of_short (Nat.succ_pos k) hshort)
  · obtain ⟨t, u, rest, hs, hu⟩ := exists_swap_operands hdeep
    refine ⟨u :: rest.set k t, (exec_swap hi s).trans (swap_of_some hs hu), ?_, ?_, ?_, fun j h0 hk => ?_⟩
    · simp [hs]
    · simp [hs, hu]
    · simp [hs, (List.getElem?_eq_some_iff.1 hu).1]
    · obtain ⟨j, rfl⟩ := Nat.exists_eq_succ_of_ne_zero h0
      have hne : k ≠ j := fun h => hk (h ▸ rfl)
      simp [hs, List.getElem?_set_ne hne]

/-- Settles O37: the second exchange sets the entry back to what it was. -/
theorem swapTwiceRestoresTheStack : Obligations.SwapTwiceRestoresTheStack := by
  intro k i s hi hdeep
  obtain ⟨t, u, rest, hs, hu⟩ := exists_swap_operands hdeep
  obtain ⟨hk, rfl⟩ := List.getElem?_eq_some_iff.1 hu
  have ht : (rest.set k t)[k]? = some t := List.getElem?_set_self hk
  refine ⟨_, _, (exec_swap hi s).trans (swap_of_some hs hu), (exec_swap hi _).trans (swap_of_some rfl ht), ?_⟩
  simp [hs]

/-- Settles O32: POP keeps what is below its operand, and JUMPDEST is the move of `pc` alone. -/
theorem popDiscardsTheTopAndJumpdestOnlyAdvances : Obligations.PopDiscardsTheTopAndJumpdestOnlyAdvances :=
  ⟨fun _ _ _ hs => need1_of_cons hs _, fun _ => rfl⟩

/-- Settles O33: every instruction with an immediate is a push of it. -/
theorem pushPushesItsImmediate : Obligations.PushPushesItsImmediate :=
  fun _ n v s himm hroom => (exec_of_immediate_some himm s).trans (pushWord_of_room hroom v (1 + n))

end Sys2Proof.Machine
end

section
/-! PROOFS of the statements about the memory instructions (43_memory_ops.md). First an access past the ceiling, the
length an access of at least one byte leaves and the range an MSTORE leaves, then the statements. -/

namespace Sys2Proof.Machine

/-! ### Past the ceiling (R54) -/

theorem Memory.expand_of_lt {p : Params} {off size : Nat} (m : Memory) (hs : 0 < size)
    (h : p.memCeiling < off + size) : m.expand p off size = none := by
  rw [Memory.expand, if_neg (fun hz => hs.ne' hz.1), if_pos h]

/-- The bytes MSTORE writes are 32, whatever the value, so the ceiling check reads the offset alone. -/
theorem faultsWith_mstore_of_lt {s : State} {off v : Word} {st : List Word} (hs : s.stack = off :: v :: st)
    (h : s.params.memCeiling < off.toNat + 32) : FaultsWith .mstore s .memoryOutOfBounds := by
  have he := Memory.expand_of_lt s.mem (off := off.toNat) (size := (bytesBe v.toNat 32).length) (by simp)
    (by simpa using h)
  exact (need2_of_cons hs _).trans (writeRange_of_none he _)

/-! ### The length after an access (R55) -/

theorem lengthAfter_of_pos (p : Params) {off size : Nat} (hs : 0 < size) (len : Nat) :
    lengthAfter p off size len = if off + size ≤ len then len else 32 * ((off + size + 31) / 32) := by
  simp [lengthAfter, hs.ne']

theorem end_le_lengthAfter (p : Params) (off : Nat) {size : Nat} (hs : 0 < size) (len : Nat) :
    off + size ≤ lengthAfter p off size len := by
  rw [lengthAfter_of_pos p hs]
  split_ifs <;> omega

theorem Memory.grow_len_eq_lengthAfter (p : Params) (m : Memory) (off : Nat) {size : Nat} (hs : 0 < size) :
    (m.grow (off + size)).len = lengthAfter p off size m.len := by
  rw [Memory.grow_len, lengthAfter_of_pos p hs, ceil32]
  split_ifs <;> omega

/-- A memory that already holds the end of an access does not grow. -/
theorem Memory.grow_of_le {m : Memory} {e : Nat} (h : e ≤ m.len) : m.grow e = m :=
  if_neg (Nat.not_lt.2 h)

/-! ### What MSTORE leaves at its offset (R242) -/

theorem bytesBe_getD (v : Nat) {n k : Nat} (hk : k < n) :
    (bytesBe v n).getD k 0#8 = BitVec.ofNat 8 (v / 256 ^ (n - 1 - k)) := by
  rw [List.getD_eq_getElem?_getD, bytesBe_getElem? v n k hk, Option.getD_some]

/-- The 32 bytes of a Word give it back. -/
theorem ofNat_be_bytesBe (v : Word) : BitVec.ofNat 256 (be (bytesBe v.toNat 32)) = v := by
  have hv : v.toNat < 256 ^ 32 := v.isLt
  rw [be_bytesBe, Nat.mod_eq_of_lt hv, BitVec.ofNat_toNat, BitVec.setWidth_eq]

/-! ### MSIZE and PC (R244, R255) -/

theorem zext_toNat {n : Nat} (h : n < 2 ^ 256) : (zext n).toNat = n := by
  rw [zext, if_pos h, BitVec.toNat_ofNat, Nat.mod_eq_of_lt h]

/-! ### The statements -/

/-- Settles O38: the bytes of a range determine their number and the number its bytes. -/
theorem mloadReadsTheWordBigEndian : Obligations.MloadReadsTheWordBigEndian := by
  intro s off st hs hceil
  refine ⟨_, _, exec_mload hs hceil, fun k hk => ?_, Memory.grow_len_eq_lengthAfter _ _ _ (by decide),
    fun a => Memory.grow_readByte _ _ a⟩
  have hlen : (s.mem.bytes off.toNat 32).length = 32 := Memory.bytes_length _ _ _
  rw [BitVec.toNat_ofNat, Nat.mod_eq_of_lt (be_lt_word hlen), ofNat_be_div hlen hk]
  simp [Memory.bytes, hk]

/-- Settles O39, by the byte that each address of the next memory reads, inside the 32 bytes and outside. -/
theorem mstoreStoresTheWordBigEndian : Obligations.MstoreStoresTheWordBigEndian := by
  refine ⟨decode_of_immediate_none (i := .mstore) rfl, fun s off v st hw hs hceil => ?_,
    fun s hshort => need2_of_short hshort _, fun s off v st => faultsWith_mstore_of_lt⟩
  obtain ⟨m, hexec, -, hlen, hread⟩ := exec_mstore hw hs hceil
  refine ⟨m, hexec, fun k hk => ?_, fun a ha => ?_, hlen.trans (lengthAfter_of_pos _ (by decide) _)⟩
  · rw [hread, if_pos (by omega), Nat.add_sub_cancel_left, bytesBe_getD _ hk]
  · rw [hread, if_neg (by omega)]

/-- Settles O40, by the byte that each address of the next memory reads. -/
theorem mstore8StoresTheLowByte : Obligations.Mstore8StoresTheLowByte := by
  intro s off v st hw hs hceil
  obtain ⟨m, hexec, -, hlen, hread⟩ := exec_mstore8 hw hs hceil
  refine ⟨m, hexec, ?_, fun a ha => by rw [hread, if_neg ha], hlen⟩
  rw [hread, if_pos rfl, BitVec.toNat_ofNat, Nat.mod_mod]

/-- Settles O41: the range read is the bytes of `v`, and the store has already grown memory to hold it. -/
theorem mloadAfterMstoreReturnsTheWord : Obligations.MloadAfterMstoreReturnsTheWord := by
  intro s off v st hw hs hceil
  obtain ⟨m, hstore, -, hlen, hread⟩ := exec_mstore hw hs hceil
  have hbytes : m.bytes off.toNat 32 = bytesBe v.toNat 32 := by
    refine Memory.bytes_eq_of_readByte (bytesBe_length _ _) fun k hk => ?_
    rw [hread, if_pos (by omega), Nat.add_sub_cancel_left]
  have hend : off.toNat + 32 ≤ m.len := hlen ▸ end_le_lengthAfter _ _ (by decide) _
  refine ⟨_, _, hstore, exec_mload rfl hceil, ?_, Memory.grow_of_le hend⟩
  rw [hbytes, ofNat_be_bytesBe]

/-- Settles O43: both are pushes of a number that `zext` keeps when it is a Word. -/
theorem msizeAndPcPushTheirNumbers : Obligations.MsizeAndPcPushTheirNumbers :=
  fun s hroom => ⟨zext s.mem.len, zext s.pc, pushWord_of_room hroom _ 1, pushWord_of_room hroom _ 1, zext_toNat,
    zext_toNat⟩

end Sys2Proof.Machine
end

section
/-! PROOFS of the statements about control flow (44_control.md). First the transfer of a jump, by its target, and the
two jumps by what stands on the stack, then the statements. -/

namespace Sys2Proof.Machine

/-! ### The transfer (R256, R296) -/

theorem jumpTo_of_mem {s : State} {t : Word} (h : t.toNat ∈ s.jd) (rest : List Word) :
    jumpTo t rest s = .next ((s.setStack rest).setPc t.toNat) :=
  if_pos h

theorem jumpTo_of_not_mem {s : State} {t : Word} (h : t.toNat ∉ s.jd) (rest : List Word) :
    jumpTo t rest s = .next (s.raise .invalidJumpDestination) :=
  if_neg h

/-! ### JUMP and JUMPI (R253, R254) -/

theorem exec_jump {s : State} {t : Word} {rest : List Word} (hs : s.stack = t :: rest) :
    exec .jump s = jumpTo t rest s :=
  need1_of_cons hs _

/-- The condition selects the branch before the target is looked at. -/
theorem exec_jumpi_of_zero {s : State} {t : Word} {rest : List Word} (hs : s.stack = t :: 0 :: rest) :
    exec .jumpi s = .next ((s.setStack rest).advance 1) :=
  (need2_of_cons hs _).trans (if_neg (not_not_intro rfl))

theorem exec_jumpi_of_ne_zero {s : State} {t c : Word} {rest : List Word} (hs : s.stack = t :: c :: rest)
    (hc : c ≠ 0) : exec .jumpi s = jumpTo t rest s :=
  (need2_of_cons hs _).trans (if_pos hc)

/-! ### The statements -/

/-- Settles O10: the code from `pc` is what the step fetches. -/
theorem stepRunsTheDecodedInstruction : Obligations.StepRunsTheDecodedInstruction :=
  fun _ _ hh hr hd => step_of_decode hh hr hd

/-- Settles O47: JUMP is the transfer, by whether the target is in JD. -/
theorem jumpGoesExactlyToItsTargets : Obligations.JumpGoesExactlyToItsTargets := by
  refine fun s t st hs => ⟨fun ht => ?_, fun ht => ?_⟩
  · exact (exec_jump hs).trans (jumpTo_of_mem ht st)
  · exact (exec_jump hs).trans (jumpTo_of_not_mem ht st)

/-- Settles O48: a condition of 0 passes the instruction, and any other makes JUMPI the transfer of JUMP. -/
theorem jumpiJumpsOnlyOnANonzeroCondition : Obligations.JumpiJumpsOnlyOnANonzeroCondition := by
  refine fun s t c st hs => ⟨fun hc => ?_, fun hc ht => ?_, fun hc ht => ?_⟩
  · exact exec_jumpi_of_zero (hc ▸ hs)
  · exact (exec_jumpi_of_ne_zero hs hc).trans (jumpTo_of_mem ht st)
  · exact (exec_jumpi_of_ne_zero hs hc).trans (jumpTo_of_not_mem ht st)

end Sys2Proof.Machine
end

section
/-! PROOFS of the statements about hashing and the environment (45_hash_env.md). First the Word of 32 bytes, what a
push does to the state and a read of a range in bounds, then the statements. -/

namespace Sys2Proof

/-! ### The Word of 32 bytes (R15) -/

theorem toNat_ofNat_be {B : List Byte} (h : B.length = 32) : (BitVec.ofNat 256 (be B)).toNat = be B := by
  rw [BitVec.toNat_ofNat, Nat.mod_eq_of_lt (be_lt_word h)]

namespace Machine

/-! ### Instructions that push one Word (R170) -/

/-- A one-byte instruction that pushes a Word does so on a stack with room. -/
theorem runsTo_of_pushWord {i : Instr} {s : State} {v : Word} (hi : exec i s = pushWord v 1 s)
    (hroom : s.stack.length < 1024) : RunsTo i s (v :: s.stack) :=
  hi.trans (pushWord_of_room hroom v 1)

/-! ### A read of a range in bounds (R57) -/

/-- The continuation gets the bytes memory held before the read, which growing it does not change. -/
theorem readRange_of_inBounds {s : State} {off size : Nat} (h : InBounds s.params off size) :
    ∃ m : Memory, (∀ k, readRange off size s k = k (s.mem.bytes off size) (s.setMem m)) ∧
      m.len = lengthAfter s.params off size s.mem.len ∧ ∀ a, m.readByte a = s.mem.readByte a := by
  obtain ⟨m, he⟩ := Memory.expand_of_inBounds s.mem h
  have hread := (Memory.expand_some he).1
  exact ⟨m, fun k => Memory.bytes_congr hread off size ▸ readRange_of_some he k, Memory.expand_len he, hread⟩

/-! ### The statements -/

/-- Settles O51: the bytes read are those of the range, and their digest is the 32 bytes of a Word. -/
theorem sha3PushesTheDigestOfTheRange : Obligations.Sha3PushesTheDigestOfTheRange := by
  intro s off size st hs hin
  obtain ⟨m, hrange, hlen, hread⟩ := readRange_of_inBounds hin
  exact ⟨_, m, (need2_of_cons hs _).trans (hrange _), toNat_ofNat_be (keccak256_length _), hlen, hread⟩

/-- Settles O53: the 32 bytes loaded determine their number and the number its bytes. -/
theorem calldataloadReads32BytesZeroFilled : Obligations.CalldataloadReads32BytesZeroFilled := by
  intro s off st hs
  refine ⟨_, runsTo_of_unary rfl hs rfl, fun k hk => ?_⟩
  have hlen : ((List.range 32).map fun k => calldataByte s (off.toNat + k)).length = 32 := by simp
  rw [toNat_ofNat_be hlen, ofNat_be_div hlen hk]
  simp [hk, calldataByte]

/-- Settles O52: each field is pushed on a stack with room, and each lookup is a one-operand instruction whose result is
0 whatever its operand. -/
theorem environmentReadsPushTheirFields : Obligations.EnvironmentReadsPushTheirFields := by
  refine ⟨fun s hroom => ?_, fun s a st hs => ⟨runsTo_of_unary rfl hs rfl, runsTo_of_unary rfl hs rfl⟩⟩
  have push {i : Instr} {v : Word} (hi : exec i s = pushWord v 1 s) : RunsTo i s (v :: s.stack) :=
    runsTo_of_pushWord hi hroom
  exact ⟨push rfl, push rfl, push rfl, push rfl, push rfl, push rfl, push rfl, push rfl, push rfl, push rfl,
    zext s.env.calldatasize, push rfl, zext_toNat⟩

end Machine

end Sys2Proof
end

section
/-! PROOFS of the statements about halting (46_halting.md). First the instructions that halt with a range of memory,
then the statements. -/

namespace Sys2Proof.Machine

/-! ### Halting with a range (R283, R284) -/

/-- The halt reason takes no part in the read, so one memory serves both RETURN and REVERT. -/
theorem haltReading_of_inBounds {s : State} {off size : Word} {st : List Word} (hs : s.stack = off :: size :: st)
    (hin : InBounds s.params off.toNat size.toNat) :
    ∃ m : Memory,
      (∀ r, haltReading r s =
        .next (((s.setMem m).setStack st).haltWith r (s.mem.bytes off.toNat size.toNat))) ∧
      m.len = lengthAfter s.params off.toNat size.toNat s.mem.len ∧ ∀ a, m.readByte a = s.mem.readByte a := by
  obtain ⟨m, hrange, hlen, hread⟩ := readRange_of_inBounds hin
  exact ⟨m, fun r => (need2_of_cons hs _).trans (hrange _), hlen, hread⟩

/-! ### The statements -/

/-- Settles O56: both are a halt with the range read, under their own reason. -/
theorem returnAndRevertHaltWithTheRange : Obligations.ReturnAndRevertHaltWithTheRange := by
  intro s off size st hs hin
  obtain ⟨m, hhalt, hlen, hread⟩ := haltReading_of_inBounds hs hin
  exact ⟨m, hhalt .returned, hhalt .reverted, hlen, hread⟩

/-- Settles O12: a step looks at the refusal mark first and at the halt reason next, and fetches only after both. -/
theorem terminalAndRefusedStatesHaveNoSuccessor : Obligations.TerminalAndRefusedStatesHaveNoSuccessor := by
  refine fun s => ⟨fun hr hh => ?_, fun hr => ?_⟩
  · simp [step, hr, hh]
  · simp [step, hr]

/-- Settles O55: STOP is one update of the state, and O11 is its clause about running past the code. -/
theorem stopHalts : Obligations.StopHalts :=
  ⟨decode_of_immediate_none (i := .stop) rfl, fun _ => rfl, stepPastTheCodeStops⟩

end Sys2Proof.Machine
end

section
/-! PROOFS of the statements about exceptions (60_exceptions.md). First the three faults an instruction must raise: on a
stack too shallow for it, on a full stack, and past the ceiling; then what an instruction that faults has done, then the
statements. -/

namespace Sys2Proof.Machine

/-! ### A stack too shallow (R294) -/

/-- The operand check comes before anything else an instruction does (R293). -/
theorem faultsWith_stackUnderflow_of_short {i : Instr} {s : State} (h : s.stack.length < i.minDepth) :
    FaultsWith i s .stackUnderflow := by
  cases i with
  | iszero | not | balance | calldataload | extcodesize | pop | mload | jump => exact need1_of_short h _
  | add | mul | sub | div | sdiv | mod | smod | exp | signextend | lt | gt | slt | sgt | eq | and | or | xor | shl
  | shr | sar | sha3 | mstore | mstore8 | jumpi | ret | revert => exact need2_of_short h _
  | dup1 | dup2 | dup3 | dup4 | dup5 | dup6 | dup7 | dup8 | dup9 | dup10 | dup11 | dup12 | dup13 | dup14 | dup15
  | dup16 => exact dup_of_short (Nat.succ_pos _) h
  | swap1 | swap2 | swap3 | swap4 | swap5 | swap6 | swap7 | swap8 | swap9 | swap10 | swap11 | swap12 | swap13
  | swap14 | swap15 | swap16 => exact swap_of_short (Nat.succ_pos _) h
  -- Every other instruction has min_depth 0.
  | _ => exact absurd h (Nat.not_lt_zero _)

/-! ### A full stack (R295) -/

theorem minDepth_le (i : Instr) : i.minDepth ≤ 17 := by
  cases i <;> exact Nat.le_of_ble_eq_true rfl

theorem exists_dup_eq_pushWord {s : State} {n : Nat} (hn : 0 < n) (h : n ≤ s.stack.length) :
    ∃ v, dup n s = pushWord v 1 s :=
  ⟨_, dup_of_some (List.getElem?_eq_getElem (by omega))⟩

/-- An instruction that pushes one Word more than it pops pops none: once its operands are there, it is a push. -/
theorem exists_exec_eq_pushWord {i : Instr} {s : State} (hg : i.growsStack = true)
    (hd : i.minDepth ≤ s.stack.length) : ∃ v, exec i s = pushWord v i.length s := by
  cases i with
  | dup1 | dup2 | dup3 | dup4 | dup5 | dup6 | dup7 | dup8 | dup9 | dup10 | dup11 | dup12 | dup13 | dup14 | dup15
  | dup16 => exact exists_dup_eq_pushWord (Nat.succ_pos _) hd
  | address | origin | caller | callvalue | calldatasize | returndatasize | coinbase | timestamp | number | gaslimit
  | chainid | pc | msize | push1 | push2 | push3 | push4 | push5 | push6 | push7 | push8 | push9 | push10 | push11
  | push12 | push13 | push14 | push15 | push16 | push17 | push18 | push19 | push20 | push21 | push22 | push23
  | push24 | push25 | push26 | push27 | push28 | push29 | push30 | push31 | push32 => exact ⟨_, rfl⟩
  | _ => cases hg

/-! ### An access past the ceiling (R297) -/

theorem not_inBounds_of_lt {p : Params} {off size : Nat} (h : p.memCeiling < off + size)
    (hz : size ≠ 0 ∨ p.zeroSizeExpands = true) : ¬ InBounds p off size := by
  rintro (⟨h0, hf⟩ | hle)
  · simp [h0, hf] at hz
  · omega

theorem Memory.expand_of_not_inBounds {p : Params} {off size : Nat} (m : Memory) (h : ¬ InBounds p off size) :
    m.expand p off size = none := by
  obtain ⟨h0, hf, -⟩ | ⟨-, -, he⟩ | ⟨-, hle, -⟩ := Memory.expand_cases p off size m
  · exact absurd (.inl ⟨h0, hf⟩) h
  · exact he
  · exact absurd (.inr hle) h

/-- An access has its operands on the stack, so the ceiling is the first check it can fail. -/
theorem faultsWith_memoryOutOfBounds {i : Instr} {s : State} {off size : Nat} (ha : Accesses i s off size)
    (h : ¬ InBounds s.params off size) : FaultsWith i s .memoryOutOfBounds := by
  have he := s.mem.expand_of_not_inBounds h
  cases ha with
  | mload hs => exact (need1_of_cons hs _).trans (readRange_of_none he _)
  | mstore hs => exact faultsWith_mstore_of_lt hs (Nat.lt_of_not_le fun hle => h (.inr hle))
  | mstore8 hs => exact (need2_of_cons hs _).trans (writeRange_of_none he _)
  | sha3 hs | ret hs | revert hs => exact (need2_of_cons hs _).trans (readRange_of_none he _)

/-! ### What an instruction that faults has done (R291) -/

/-- The halt Invalid is only ever entered by raising a fault, and a fault has a cause. -/
theorem Effect.of_invalid {i : Instr} {s t : State} (h : Effect i s t) (hs : s.halt ≠ .invalid)
    (ht : t.halt = .invalid) : ∃ k, Cause i s k ∧ t = s.raise k := by
  cases h with
  | raised hc => exact ⟨_, hc, rfl⟩
  | stopped => cases ht
  | ended hi => obtain ⟨-, rfl⟩ | ⟨-, rfl⟩ := hi <;> cases ht
  | refused | stack | memory | jumped => exact absurd ht hs

theorem cause_of_exec_invalid {i : Instr} {s t : State} (hh : s.halt = .running) (h : exec i s = .next t)
    (ht : t.halt = .invalid) : ∃ k, Cause i s k ∧ t = s.raise k :=
  (effect_of_exec h).of_invalid (by simp [hh]) ht

/-- The fault kind an effect leaves: the one recorded before, or one with a cause. -/
theorem Effect.fault_cases {i : Instr} {s t : State} (h : Effect i s t) : t.fault = s.fault ∨ Cause i s t.fault := by
  cases h with
  | raised hc => exact .inr hc
  | refused | stopped | ended | stack | memory | jumped => exact .inl rfl

/-! ### The statements -/

/-- Settles O15, by how each instruction takes its operands. -/
theorem tooFewOperandsRaiseStackUnderflow : Obligations.TooFewOperandsRaiseStackUnderflow :=
  ⟨fun _ _ => faultsWith_stackUnderflow_of_short, rfl⟩

/-- Settles O16: a growing instruction is a push, as a full stack holds its operands, and any other has no cause to
raise StackOverflow. -/
theorem fullStackRaisesStackOverflow : Obligations.FullStackRaisesStackOverflow := by
  refine ⟨fun i s hg hfull => ?_, fun i s t hg h hs ht => ?_, rfl⟩
  · have hd := minDepth_le i
    obtain ⟨v, hexec⟩ := exists_exec_eq_pushWord hg (s := s) (by omega)
    exact hexec.trans (pushWord_of_full hfull.ge v _)
  · obtain hf | hc := (effect_of_exec h).fault_cases
    · exact hs (hf.symm.trans ht)
    · rw [ht] at hc
      cases hc with | overflow hi => simp [hg] at hi

/-- Settles O17: a fault is entered by one update of the state. -/
theorem faultsAreAtomic : Obligations.FaultsAreAtomic := by
  intro i s t hh h ht
  obtain ⟨k, hc, rfl⟩ := cause_of_exec_invalid hh h ht
  exact ⟨hc.ne_noFault, rfl⟩

/-- Settles O18: each kind from its cause, and R293's order from O15, as a stack too shallow gives no other kind. -/
theorem faultsHaveOnlyTheirCauses : Obligations.FaultsHaveOnlyTheirCauses := by
  refine ⟨fun i s t hh h ht => ?_, rfl⟩
  obtain ⟨k, hc, rfl⟩ := cause_of_exec_invalid hh h ht
  have horder (hk : k ≠ .stackUnderflow) : i.minDepth ≤ s.stack.length := by
    by_contra hshort
    have hfault := h.symm.trans (faultsWith_stackUnderflow_of_short (Nat.lt_of_not_le hshort))
    exact hk (congrArg State.fault (Host.Outcome.next.inj hfault))
  refine ⟨?_, horder, ?_, ?_, ?_, ?_⟩
  · rintro rfl
    cases hc with | underflow hshort => exact hshort
  · rintro rfl
    cases hc with | overflow hg hfull => exact ⟨hg, hfull⟩
  · rintro rfl
    cases hc with | target hj hmem => exact ⟨_, hj, hmem⟩
  · rintro rfl
    cases hc with | outOfBounds ha hout => exact ⟨_, _, ha, hout⟩
  · rintro rfl
    cases hc with | opcode hi => exact hi

/-- Settles O44: each of the six accesses is not in bounds. -/
theorem outOfBoundsAccessesFault : Obligations.OutOfBoundsAccessesFault := by
  refine ⟨fun s off st hs hc => ?_, fun s off v st hs => ⟨fun hc => ?_, fun hc => ?_, fun hc hz => ?_⟩, rfl⟩
  · exact faultsWith_memoryOutOfBounds (.mload hs) (not_inBounds_of_lt hc (.inl (by decide)))
  · exact faultsWith_mstore_of_lt hs hc
  · exact faultsWith_memoryOutOfBounds (.mstore8 hs) (not_inBounds_of_lt hc (.inl (by decide)))
  · have hout := not_inBounds_of_lt hc (hz.imp_left fun hv h0 => hv (BitVec.eq_of_toNat_eq h0))
    exact ⟨faultsWith_memoryOutOfBounds (.sha3 hs) hout, faultsWith_memoryOutOfBounds (.ret hs) hout,
      faultsWith_memoryOutOfBounds (.revert hs) hout⟩

/-- Settles O57: INVALID and class U are one operation, and class X is that operation too under the parameter. -/
theorem invalidAndUnassignedBytesRaiseInvalidOpcode : Obligations.InvalidAndUnassignedBytesRaiseInvalidOpcode := by
  refine ⟨decode_of_immediate_none (i := .invalid) rfl, fun i s hi => ?_, rfl⟩
  obtain hi | hi | ⟨hi, hp⟩ := hi
  · exact exec_of_unassigned (.inl hi) s
  · exact exec_of_unassigned (.inr hi) s
  · rw [FaultsWith, exec_of_unlisted hi, unlisted, hp]
    rfl

end Sys2Proof.Machine
end
